-- ==== Sys2Proof/Word.lean ====
section
/-! DEFINITION. The value types of the datapath: bytes, 4-byte words and 16-byte blocks, and their only plain
arithmetic, the bytewise exclusive or (00_scope.md R8, R10, R11, R12). -/

namespace Sys2Proof

/-- A byte, bits 7 down to 0, unsigned (R8). -/
abbrev Byte := BitVec 8

/-- A word `(w[0], w[1], w[2], w[3])`: four bytes in order, never a number (R11, R42). As a column of a block, `w[r]` is the
byte of row `r` (R10). -/
structure Word where
  b0 : Byte
  b1 : Byte
  b2 : Byte
  b3 : Byte
  deriving DecidableEq, Repr, Inhabited

/-- A block: 16 bytes as four columns; `S[4c + r]` is row `r` of column `c` (R10). -/
structure Block where
  w0 : Word
  w1 : Word
  w2 : Word
  w3 : Word
  deriving DecidableEq, Repr, Inhabited

/-- `xor` of two words, byte by byte (R12). -/
def Word.xor (a b : Word) : Word :=
  ⟨a.b0 ^^^ b.b0, a.b1 ^^^ b.b1, a.b2 ^^^ b.b2, a.b3 ^^^ b.b3⟩

/-- `xor` of two blocks, byte by byte (R12). -/
def Block.xor (a b : Block) : Block :=
  ⟨a.w0.xor b.w0, a.w1.xor b.w1, a.w2.xor b.w2, a.w3.xor b.w3⟩

end Sys2Proof
end

