-- ==== Sys2Proof/Machine/Operands.lean ====
section
/-! DEFINITION. Operand forms and byte order: the matrix reading of a block (00_scope.md R10), a byte string as a block
(20_memory.md R42, 30_encoding.md R72), and the loops over rows and columns in which the transforms are written. -/

namespace Sys2Proof.Machine

/-- `w[r]` (R11). -/
def byteOf (w : Word) (r : Fin 4) : Byte :=
  match r with
  | 0 => w.b0
  | 1 => w.b1
  | 2 => w.b2
  | 3 => w.b3

/-- Column `c` of a block, the word `(S[4c], S[4c+1], S[4c+2], S[4c+3])` (R10). -/
def columnOf (s : Block) (c : Fin 4) : Word :=
  match c with
  | 0 => s.w0
  | 1 => s.w1
  | 2 => s.w2
  | 3 => s.w3

/-- `S(r,c) = S[4c + r]`, the byte in row `r` and column `c` (R10). -/
def cell (s : Block) (r c : Fin 4) : Byte := byteOf (columnOf s c) r

/-- The word whose byte `r` is `f r`. -/
def mkWord (f : Fin 4 → Byte) : Word := ⟨f 0, f 1, f 2, f 3⟩

/-- The block whose cell in row `r`, column `c` is `f r c`. -/
def mkBlock (f : Fin 4 → Fin 4 → Byte) : Block :=
  ⟨mkWord (f · 0), mkWord (f · 1), mkWord (f · 2), mkWord (f · 3)⟩

/-- `mkWord` for bytes whose computation may raise; the first raise in the order of the rows wins (R220). -/
def mkWordM {ε : Type} (f : Fin 4 → Except ε Byte) : Except ε Word := do
  let b0 ← f 0
  let b1 ← f 1
  let b2 ← f 2
  let b3 ← f 3
  return ⟨b0, b1, b2, b3⟩

/-- The loop `for c in 0..3: for r in 0..3: S'(r, c) = f r c` (R13), where `f` may raise; the first raise in execution order
wins (R220, log 10). -/
def mkBlockM {ε : Type} (f : Fin 4 → Fin 4 → Except ε Byte) : Except ε Block := do
  let w0 ← mkWordM (f · 0)
  let w1 ← mkWordM (f · 1)
  let w2 ← mkWordM (f · 2)
  let w3 ← mkWordM (f · 3)
  return ⟨w0, w1, w2, w3⟩

/-- A word as its byte string `w[0], ..., w[3]`. -/
def bytesOfWord (w : Word) : List Byte := [w.b0, w.b1, w.b2, w.b3]

/-- A block as its byte string, `P[i] = S[i]` (R10, R42, R74). -/
def bytesOfBlock (s : Block) : List Byte :=
  bytesOfWord s.w0 ++ bytesOfWord s.w1 ++ bytesOfWord s.w2 ++ bytesOfWord s.w3

/-- A byte string of exactly 16 bytes as a block, `S[4c + r] = P[4c + r]`; any other length is no block (R10, R72). -/
def blockOfBytes (p : List Byte) : Option Block :=
  if p.length = 16 then some (mkBlock fun r c => p.getD (4 * c.val + r.val) 0) else none

end Sys2Proof.Machine
end

