-- ==== Sys2Proof/Config.lean ====
section
/-! DEFINITION. The parameters of the hardware (00_scope.md R7) and the values the spec leaves open. An `opaque` constant has
no body: nothing can be proved of its value, so whatever is proved holds for every value. The other parameters of R7 are
fixed and stand where they are used: 16-byte keys and blocks (the type `Block`), 11 round keys, the tables. -/

namespace Sys2Proof

/-- NR, the number of rounds after the initial key addition (R2, R7, fixed). -/
def Config.rounds : Nat := 10

/-- LANES, the number of block datapaths (R7, R225, D17; log 15): the model uses 1; no value of it can be observed, so
nothing reads it. -/
def Config.lanes : Nat := 1

/-- RCON_TAIL (R59, D14): the round constants 10 to 21, `rconTail 0` to `rconTail 11`. In no source; no operation reads them.
DESIGN CHOICE (log 3): free. Safe. -/
opaque Config.rconTail : Nat → Byte

/-- What a register holds where the spec says it "holds no value" (R23, R30, R32): the n-th free block. DESIGN CHOICE (logs 1
and 2). Nothing constrains it; that no answer to the host depends on it is stated as an obligation (R30 allows "an
`Option`, or a proof obligation"). -/
opaque Config.freeBlock : Nat → Block

end Sys2Proof
end

