-- ==== Sys2Proof/Syntax.lean ====
section
/-! DEFINITION. The operations of CORE: one constructor per row of spec/opcode_table.json, in the table's order
(30_encoding.md R70, R73, R76, R78). -/

namespace Sys2Proof

/-- The three encoding spaces (R70). Their numeric codes overlap; an operation is read in the space it is issued in. -/
inductive Space where
  /-- Commands, issued by the host. -/
  | cmd
  /-- Multiplicand selects, issued by MC and IMC. -/
  | gfsel
  /-- Micro-operation labels, issued by the stage schedule. -/
  | uop
  deriving DecidableEq, Repr

/-- An operation of CORE with its operand. -/
inductive Instr where
  /-- KEYLOAD, code 0x01: load a key and expand it (R171). The payload should be the 16-byte key. -/
  | keyload (payload : List Byte)
  /-- ENCRYPT, code 0x02: transform one plaintext block (R172). -/
  | encrypt (payload : List Byte)
  /-- DECRYPT, code 0x03: transform one ciphertext block back (R173). -/
  | decrypt (payload : List Byte)
  /-- GFMUL.1, select 0x01: bypass (R91). -/
  | gfmul1 (m : Byte)
  /-- GFMUL.2, select 0x02 (R92). -/
  | gfmul2 (m : Byte)
  /-- GFMUL.3, select 0x03 (R93). -/
  | gfmul3 (m : Byte)
  /-- GFMUL.9, select 0x09 (R94). -/
  | gfmul9 (m : Byte)
  /-- GFMUL.11, select 0x0b (R95). -/
  | gfmul11 (m : Byte)
  /-- GFMUL.13, select 0x0d (R96). -/
  | gfmul13 (m : Byte)
  /-- GFMUL.14, select 0x0e (R97). -/
  | gfmul14 (m : Byte)
  /-- ARK(j), label 0x1: combine ST with round key `j` (R130). -/
  | ark (j : BitVec 4)
  /-- SB, label 0x2: substitute bytes (R131). -/
  | sb
  /-- SR, label 0x3: rotate rows left (R132). -/
  | sr
  /-- MC, label 0x4: column diffusion (R133). -/
  | mc
  /-- ISR, label 0x5: rotate rows right (R150). -/
  | isr
  /-- ISB, label 0x6: inverse substitution (R151). -/
  | isb
  /-- IMC, label 0x7: inverse column diffusion (R152). -/
  | imc
  /-- KLD0(K), label 0x8: round key 0 is the key (R111). -/
  | kld0 (key : Block)
  /-- KEXP(r), label 0x9: round key `r` from round key `r - 1` (R115). -/
  | kexp (r : BitVec 4)
  deriving DecidableEq, Repr

/-- The encoding space of an operation (R73, R76, R78). -/
def Instr.space : Instr → Space
  | .keyload _ | .encrypt _ | .decrypt _ => .cmd
  | .gfmul1 _ | .gfmul2 _ | .gfmul3 _ | .gfmul9 _ | .gfmul11 _ | .gfmul13 _ | .gfmul14 _ => .gfsel
  | .ark _ | .sb | .sr | .mc | .isr | .isb | .imc | .kld0 _ | .kexp _ => .uop

end Sys2Proof
end

