-- ==== Sys2Proof/Machine/State.lean ====
section
/-! DEFINITION. The state of CORE as plain data (10_state.md R20), with the two sides of its interface (30_encoding.md R71,
R74) and the state after reset (10_state.md R32). -/

namespace Sys2Proof.Machine

/-- The file of the 11 round-key registers, `RK[0]` to `RK[10]` (R21). -/
abbrev RoundKeys := Vector Block 11

/-- The causes of the fatal internal error (R217). -/
inductive Cause where
  /-- A table index outside its table (R61). -/
  | tableIndex
  /-- `GFMUL(n, m)` with `n` outside the supported set (R98). -/
  | multiplicand
  /-- A round index outside 0 to 10 for a round-key register, or outside 1 to 10 for KEXP (R115, R130). -/
  | roundIndex
  deriving DecidableEq, Repr

/-- The kinds of response (R74, R211). -/
inductive RespCode where
  | ok
  | errKeylen
  | errBlklen
  | errNokey
  | errCmd
  | errFatal
  deriving DecidableEq, Repr

/-- A response: its code, and the result block of a block command that ran (R74). -/
structure Response where
  code : RespCode
  data : Option Block
  deriving DecidableEq, Repr

/-- What the host does next (R190, R240). -/
inductive HostAct where
  /-- The host presents bytes at the command interface (R71). -/
  | present (bytes : List Byte)
  /-- The host asserts reset, which is no command (R240). -/
  | reset
  deriving DecidableEq, Repr

/-- An operation issued inside CORE (R70): its space and its bytes. The host can issue none. -/
inductive Issue where
  /-- A multiplier select with its data byte (R76). -/
  | gfsel (bytes : List Byte)
  /-- A micro-operation label with its operand (R78). -/
  | uop (bytes : List Byte)
  deriving DecidableEq, Repr

/-- The machine. The first five fields are the whole architectural state (R20); the others are the model's own: the interface
with the host, and the places where an internal operation run by itself finds its operands and leaves its result. -/
structure State where
  /-- RK[0..10], the round-key schedule (R21). -/
  rk : RoundKeys
  /-- ST, the working block, of no value outside a block command (R23). -/
  st : Block
  /-- KVALID (R24). -/
  kvalid : Bool
  /-- FATAL, sticky (R25). -/
  fatal : Bool
  /-- FCAUSE (R25). -/
  fcause : BitVec 2
  /-- RKn, the schedule under construction in KEYEXPAND's pseudocode (R116, R171), used by KLD0 and KEXP when they run as
  single operations. Model's own (log 6). -/
  rkn : RoundKeys
  /-- The byte the last single multiplier operation returned. Model's own (log 7). -/
  gfOut : Byte
  /-- Internal operations issued and not yet run, first one first. Always empty from reset. Model's own (log 5). -/
  seq : List Issue
  /-- What the host will do, first one first. Model's own (log 4). -/
  inp : List HostAct
  /-- The bytes of the command being taken (R80). Model's own (log 4). -/
  rx : List Byte
  /-- The responses returned so far, oldest first (R74). Model's own (log 4). -/
  out : List Response
  /-- How many free values have been used. Model's own (log 2). -/
  draws : Nat
  deriving DecidableEq, Repr

/-- The stops of the machine that are faults. None is an error of CORE's own (those are responses, R211); each can only follow
from a malformed internal operation in `State.seq`, which no run from reset holds. -/
inductive Fault where
  /-- `step`, on an internal operation whose label names nothing: "a fatal internal error of the model" (R78, U10). Safe. -/
  | unknownLabel (label : BitVec 4)
  /-- `step`, on an internal operation whose operand bytes do not fit its select or label (log 8). Safe. -/
  | badOperand
  deriving DecidableEq, Repr

/-- The requests the model gives no meaning. -/
inductive Refusal where
  /-- `exec`, on an instruction that has no meaning yet. No arm raises it. Safe. -/
  | notModelled (mnemonic : String)
  /-- `step`, when the host presents bytes beyond the end of a command before that command's response: the spec gives "no meaning
  to a second command presented while one is in progress" and "a model has no transition for it" (R244, U11, log 9). Safe. -/
  | earlyCommand
  deriving DecidableEq, Repr

/-- Eleven registers without a value: the free values `n` to `n + 10` (logs 1 and 2). -/
def freeKeys (n : Nat) : RoundKeys :=
  #v[Config.freeBlock n, Config.freeBlock (n + 1), Config.freeBlock (n + 2), Config.freeBlock (n + 3),
    Config.freeBlock (n + 4), Config.freeBlock (n + 5), Config.freeBlock (n + 6), Config.freeBlock (n + 7),
    Config.freeBlock (n + 8), Config.freeBlock (n + 9), Config.freeBlock (n + 10)]

/-- The state after reset (R32): the flags are 0; RK and ST hold no value, so free values (DESIGN CHOICE, log 1); the
interface is idle and nothing is scripted for the host. -/
def State.reset : State where
  rk := freeKeys 0
  st := Config.freeBlock 22
  kvalid := false
  fatal := false
  fcause := 0
  rkn := freeKeys 11
  gfOut := 0
  seq := []
  inp := []
  rx := []
  out := []
  draws := 23

end Sys2Proof.Machine
end

