-- ==== Sys2Proof/Machine/Flags.lean ====
section
/-! DEFINITION. The flags and codes: FCAUSE codes (60_exceptions.md R217), STATUS (10_state.md R27), response codes and
response bytes (30_encoding.md R74). No data operation sets a flag (42_forward_transform.md R138). -/

namespace Sys2Proof.Machine

/-- The FCAUSE code of a cause: 1, 2, 3 (R217); 0 means none (R25). -/
def causeCode : Cause → BitVec 2
  | .tableIndex => 1
  | .multiplicand => 2
  | .roundIndex => 3

/-- FCAUSE after `raise Fatal(cause)`: the cause of the first fatal error is kept (R25, R216). -/
def causeAfter (cause : Cause) (s : State) : BitVec 2 :=
  if s.fatal then s.fcause else causeCode cause

/-- STATUS: bit 0 KVALID, bit 1 FATAL, bits 3:2 FCAUSE, bits 7:4 hardwired 0; reading it has no side effect (R27). -/
def status (s : State) : Byte :=
  (0 : BitVec 4) ++ s.fcause ++ BitVec.ofBool s.fatal ++ BitVec.ofBool s.kvalid

/-- The 4-bit response code (R74). -/
def respCode : RespCode → BitVec 4
  | .ok => 0x0
  | .errKeylen => 0x1
  | .errBlklen => 0x2
  | .errNokey => 0x3
  | .errCmd => 0x4
  | .errFatal => 0xf

/-- The byte string `Q` of a response (R74): the code with a zero high nibble, the data length 0 or 16, the data. -/
def responseBytes (q : Response) : List Byte :=
  ((0 : BitVec 4) ++ respCode q.code : Byte) ::
    match q.data with
    | none => [0x00]
    | some d => 0x10 :: bytesOfBlock d

end Sys2Proof.Machine
end

