-- ==== Sys2Proof/Machine/Ops.lean ====
section
/-! DEFINITION. The named operations over tables, registers and the interface: the primitives of 00_scope.md R13, the fatal
internal error (60_exceptions.md R216), reset (70_reset_and_hazards.md R240) and the checks of a command (44_commands.md
R174). -/

namespace Sys2Proof.Machine

/-- A computation that may `raise Fatal(cause)` (R13). -/
abbrev Raise := Except Cause

/-- An entry of a table printed in rows; an index outside the table raises TABLE_INDEX (R61, R217). -/
def readEntry (t : Rows) (row col : Nat) : Raise Byte :=
  match t[row]? with
  | none => .error .tableIndex
  | some bytes =>
    match bytes[col]? with
    | none => .error .tableIndex
    | some b => .ok b

/-- `T[i]` of a byte-indexed table: row the high hex digit of `i`, column the low one (R13, R40, R61). -/
def readTable (t : Rows) (i : Nat) : Raise Byte := readEntry t (i / 16) (i % 16)

/-- `RCON[i]` (R59, R61). -/
def readRcon (t : List Byte) (i : Nat) : Raise Byte :=
  match t[i]? with
  | none => .error .tableIndex
  | some b => .ok b

/-- `RK[j]`; `j` above 10 raises ROUND_INDEX (R13, R61, R217). -/
def readRk (rk : RoundKeys) (j : Nat) : Raise Block :=
  if h : j < 11 then .ok rk[j] else .error .roundIndex

/-- `RK[j] <- v`; `j` above 10 raises ROUND_INDEX (R13). -/
def writeRk (rk : RoundKeys) (j : Nat) (v : Block) : Raise RoundKeys :=
  if h : j < 11 then .ok (rk.set j v) else .error .roundIndex

/-- `respond(code)` and `respond(OK, D)`: the response is returned, after those before it (R13, R74). -/
def respond (q : Response) (s : State) : State := { s with out := s.out ++ [q] }

/-- `respond(code)` without data: the only effect of a refused command (R28, R174). -/
def refuse (code : RespCode) (s : State) : State := respond ⟨code, none⟩ s

/-- ST is left without a value: it takes the next free value (R23, log 2). -/
def dropSt (s : State) : State := { s with st := Config.freeBlock s.draws, draws := s.draws + 1 }

/-- Taking the fatal internal error (R216): the command stops at once, so nothing issued remains; ST is left without a value;
FCAUSE takes the cause if FATAL was 0; FATAL becomes 1; the response is ERR_FATAL without data. RK and KVALID are not
touched. No state is saved and no control is transferred (R221); the only return is reset (R222). -/
def takeFatal (cause : Cause) (s : State) : State :=
  refuse .errFatal
    (dropSt { s with fatal := true, fcause := causeAfter cause s, seq := [] })

/-- Reset (R240, R241): the flags are cleared, RK and ST are left without a value, a command being taken is abandoned without
a response (R246). What the host has received and what it will do next are the host's. -/
def applyReset (s : State) : State :=
  { s with
    rk := freeKeys s.draws
    st := Config.freeBlock (s.draws + 22)
    kvalid := false
    fatal := false
    fcause := 0
    rkn := freeKeys (s.draws + 11)
    gfOut := 0
    seq := []
    rx := []
    draws := s.draws + 23 }

/-- Checks 1, 3 and 4 of R174 for a command whose code is legal: the response of the first check that fails, else the
payload as a block. -/
def acceptCommand (lengthError : RespCode) (needsKey : Bool) (payload : List Byte) (s : State) :
    Except RespCode Block :=
  if s.fatal then .error .errFatal
  else
    match blockOfBytes payload with
    | none => .error lengthError
    | some b => if needsKey && !s.kvalid then .error .errNokey else .ok b

/-- Checks 1 and 2 of R174 for a command whose code is illegal: ERR_FATAL while FATAL is 1, else ERR_CMD (R75, R215); the
payload is discarded. -/
def refuseIllegal (s : State) : State :=
  refuse (if s.fatal then .errFatal else .errCmd) s

/-- A pure step of the working block: `ST <- f(ST)`, or the fatal internal error it raises. -/
def updateSt (f : Block → Raise Block) (s : State) : State :=
  match f s.st with
  | .ok b => { s with st := b }
  | .error cause => takeFatal cause s

/-- A step of the schedule under construction: `RKn <- f(RKn)`, or the fatal internal error it raises. -/
def updateRkn (f : RoundKeys → Raise RoundKeys) (s : State) : State :=
  match f s.rkn with
  | .ok rkn => { s with rkn := rkn }
  | .error cause => takeFatal cause s

/-- The byte a multiplier operation returns, or the fatal internal error it raises (R90). -/
def updateGf (r : Raise Byte) (s : State) : State :=
  match r with
  | .ok b => { s with gfOut := b }
  | .error cause => takeFatal cause s

end Sys2Proof.Machine
end

