-- ==== Sys2Proof/Machine/Galois.lean ====
section
/-! DEFINITION. The GF(2^8) multiplier: the product that is its contract (40_gf_multiply.md R99) and the table lookup that
realises it (R90 to R98). -/

namespace Sys2Proof.Machine

/-- `xtime(a)`: `a` times `x` modulo x^8 + x^4 + x^3 + x + 1, the 9-bit pattern 0x11b (R99). -/
def xtime (a : Byte) : Byte :=
  let t : BitVec 9 := a ++ (0 : BitVec 1)
  let t' := if t.getLsbD 8 then t ^^^ 0x11b else t
  t'.extractLsb' 0 8

/-- The loop of R99: `k` bits of `b` are left, the next one being bit `8 - k`. -/
def gfLoop : Nat → Byte → Byte → Byte → Byte
  | 0, _, _, p => p
  | k + 1, a, b, p => gfLoop k (xtime a) b (if b.getLsbD (7 - k) then p ^^^ a else p)

/-- The product of two bytes in GF(2^8) (R99). -/
def gfProduct (a b : Byte) : Byte := gfLoop 8 a b 0

/-- `GFMUL(n, m)` (R90): bypass for 1, a table for each of 2, 3, 9, 11, 13, 14, and MULTIPLICAND raised for every other `n`
(R98). -/
def gfmul (T : Tables) (n m : Byte) : Raise Byte :=
  if n = 0x01 then .ok m
  else if n = 0x02 then readTable T.gm2 m.toNat
  else if n = 0x03 then readTable T.gm3 m.toNat
  else if n = 0x09 then readTable T.gm9 m.toNat
  else if n = 0x0b then readTable T.gm11 m.toNat
  else if n = 0x0d then readTable T.gm13 m.toNat
  else if n = 0x0e then readTable T.gm14 m.toNat
  else .error .multiplicand

end Sys2Proof.Machine
end

