-- ==== Sys2Proof/Machine/Transform.lean ====
section
/-! DEFINITION. The transforms of the datapath as functions of their operands and the constant tables alone (00_scope.md R14):
the micro-operations, the key schedule (41_key_schedule.md), the forward and the inverse block transform
(42_forward_transform.md, 43_inverse_transform.md). -/

namespace Sys2Proof.Machine

/-- ARK(S, j) (R130). -/
def addRoundKey (rk : RoundKeys) (j : Nat) (s : Block) : Raise Block := do
  let k ← readRk rk j
  return s.xor k

/-- SB(S) (R131). -/
def subBytes (T : Tables) (s : Block) : Raise Block :=
  mkBlockM fun r c => readTable T.sbox (cell s r c).toNat

/-- ISB(S) (R151). -/
def invSubBytes (T : Tables) (s : Block) : Raise Block :=
  mkBlockM fun r c => readTable T.invSbox (cell s r c).toNat

/-- SR(S): `S'(r, c) = S(r, (c + r) mod 4)` (R132); the sum is taken modulo 4 by its type. -/
def shiftRows (s : Block) : Block := mkBlock fun r c => cell s r (c + r)

/-- ISR(S): `S'(r, c) = S(r, (c - r) mod 4)` (R150); the difference is taken modulo 4 by its type. -/
def invShiftRows (s : Block) : Block := mkBlock fun r c => cell s r (c - r)

/-- Output row `r` of a column: the xor over `k` of `GFMUL(M[r][k], input row k)` (R60, R133, R152). -/
def mixRow (T : Tables) (matrix : Rows) (a : Word) (r : Fin 4) : Raise Byte := do
  let x0 ← gfmul T (← readEntry matrix r 0) a.b0
  let x1 ← gfmul T (← readEntry matrix r 1) a.b1
  let x2 ← gfmul T (← readEntry matrix r 2) a.b2
  let x3 ← gfmul T (← readEntry matrix r 3) a.b3
  return x0 ^^^ x1 ^^^ x2 ^^^ x3

/-- A diffusion: each column is the matrix times the old column (R133, R152, C1). -/
def diffuse (T : Tables) (matrix : Rows) (s : Block) : Raise Block :=
  mkBlockM fun r c => mixRow T matrix (columnOf s c) r

/-- MC(S) (R133). -/
def mixColumns (T : Tables) (s : Block) : Raise Block := diffuse T T.mix s

/-- IMC(S) (R152). -/
def invMixColumns (T : Tables) (s : Block) : Raise Block := diffuse T T.invMix s

/-- KLD0(K): round key 0 is the key (R111). -/
def loadKey0 (key : Block) : Block := key

/-- ROTWORD(w) (R112). -/
def rotWord (w : Word) : Word := ⟨w.b1, w.b2, w.b3, w.b0⟩

/-- SUBWORD(w) (R113). -/
def subWord (T : Tables) (w : Word) : Raise Word :=
  mkWordM fun r => readTable T.sbox (byteOf w r).toNat

/-- ADDRCON(w, r): byte 0 takes `RCON[r - 1]` (R114). -/
def addRcon (T : Tables) (w : Word) (r : Nat) : Raise Word := do
  let c ← readRcon T.rcon (r - 1)
  return { w with b0 := w.b0 ^^^ c }

/-- KEXP(r, p): round key `r` from round key `r - 1`; `r` outside 1 to 10 raises ROUND_INDEX (R115). -/
def expandRound (T : Tables) (r : Nat) (p : Block) : Raise Block :=
  if 1 ≤ r ∧ r ≤ 10 then do
    let t ← addRcon T (← subWord T (rotWord p.w3)) r
    let n0 := t.xor p.w0
    let n1 := n0.xor p.w1
    let n2 := n1.xor p.w2
    let n3 := n2.xor p.w3
    return ⟨n0, n1, n2, n3⟩
  else .error .roundIndex

/-- One round of the loop of R116: `RKn[r] = KEXP(r, RKn[r - 1])`; `r` outside 1 to 10 raises ROUND_INDEX (R115). -/
def expandInto (T : Tables) (r : Nat) (rkn : RoundKeys) : Raise RoundKeys := do
  let p ← readRk rkn (r - 1)
  let k ← expandRound T r p
  writeRk rkn r k

/-- `RKn[0] = KLD0(K)` (R116). -/
def loadInto (key : Block) (rkn : RoundKeys) : Raise RoundKeys := writeRk rkn 0 (loadKey0 key)

/-- The rounds `1, ..., n` in that order. -/
def roundsTo (n : Nat) : List Nat := List.range' 1 n

/-- KEYEXPAND(K) (R116). The ten registers not yet made hold no meaning before their round writes them. -/
def keyExpand (T : Tables) (key : Block) : Raise RoundKeys := do
  let rkn ← loadInto key (Vector.replicate 11 key)
  (roundsTo Config.rounds).foldlM (fun rkn r => expandInto T r rkn) rkn

/-- The body of stages 1 to 9 of ENC_BLOCK (R134). -/
def encRound (T : Tables) (rk : RoundKeys) (s : Block) (r : Nat) : Raise Block := do
  let s ← subBytes T s
  let s := shiftRows s
  let s ← mixColumns T s
  addRoundKey rk r s

/-- ENC_BLOCK(RK, B) (R134); stage 10 has no MC (R135). -/
def encBlock (T : Tables) (rk : RoundKeys) (b : Block) : Raise Block := do
  let s ← addRoundKey rk 0 b
  let s ← (roundsTo (Config.rounds - 1)).foldlM (encRound T rk) s
  let s ← subBytes T s
  let s := shiftRows s
  addRoundKey rk Config.rounds s

/-- The body of stages 9 to 1 of DEC_BLOCK (R153). -/
def decRound (T : Tables) (rk : RoundKeys) (s : Block) (r : Nat) : Raise Block := do
  let s ← addRoundKey rk r s
  let s ← invMixColumns T s
  let s := invShiftRows s
  invSubBytes T s

/-- DEC_BLOCK(RK, B) (R153). -/
def decBlock (T : Tables) (rk : RoundKeys) (b : Block) : Raise Block := do
  let s ← addRoundKey rk Config.rounds b
  let s := invShiftRows s
  let s ← invSubBytes T s
  let s ← (roundsTo (Config.rounds - 1)).reverse.foldlM (decRound T rk) s
  addRoundKey rk 0 s

end Sys2Proof.Machine
end

