-- ==== Sys2Proof/Machine/Commands.lean ====
section
/-! DEFINITION. The three commands of the host (44_commands.md R171 to R174): the checks, the work, the response. Each is
one atomic transition (R170). -/

namespace Sys2Proof.Machine

/-- KEYLOAD over given constant tables (R171): after the checks, RK takes the whole schedule at once, KVALID is set, and OK is
answered without data. If KEYEXPAND raises, RK and KVALID keep their values (R216). ST is not touched (C9). -/
def keyloadWith (T : Tables) (payload : List Byte) (s : State) : State :=
  match acceptCommand .errKeylen false payload s with
  | .error code => refuse code s
  | .ok key =>
    match keyExpand T key with
    | .error cause => takeFatal cause s
    | .ok rk => respond ⟨.ok, none⟩ { s with rk := rk, kvalid := true }

/-- A block command over a given transform (R172, R173): after the checks, `ST <- P`, `ST <- f(RK, ST)`, and OK is answered
with ST, which then holds no value. -/
def blockCommandWith (f : RoundKeys → Block → Raise Block) (payload : List Byte) (s : State) : State :=
  match acceptCommand .errBlklen true payload s with
  | .error code => refuse code s
  | .ok b =>
    let s := { s with st := b }
    match f s.rk s.st with
    | .error cause => takeFatal cause s
    | .ok d => respond ⟨.ok, some d⟩ (dropSt { s with st := d })

/-- ENCRYPT over given constant tables (R172). -/
def encryptWith (T : Tables) (payload : List Byte) (s : State) : State :=
  blockCommandWith (encBlock T) payload s

/-- DECRYPT over given constant tables (R173). -/
def decryptWith (T : Tables) (payload : List Byte) (s : State) : State :=
  blockCommandWith (decBlock T) payload s

/-- KEYLOAD (R171). -/
def execKeyload (payload : List Byte) (s : State) : Host.Outcome State Fault Refusal :=
  .next (keyloadWith tables payload s)

/-- ENCRYPT (R172). -/
def execEncrypt (payload : List Byte) (s : State) : Host.Outcome State Fault Refusal :=
  .next (encryptWith tables payload s)

/-- DECRYPT (R173). -/
def execDecrypt (payload : List Byte) (s : State) : Host.Outcome State Fault Refusal :=
  .next (decryptWith tables payload s)

end Sys2Proof.Machine
end

