-- ==== Sys2Proof/Machine/Micro.lean ====
section
/-! DEFINITION. The nine micro-operations as single operations (30_encoding.md R78), over ST and, for KLD0 and KEXP, over the
schedule under construction. A transform never reads a flag (00_scope.md R14). -/

namespace Sys2Proof.Machine

/-- ARK(j): `ST <- ST xor RK[j]`; `j` above 10 raises ROUND_INDEX (R130). -/
def execArk (j : BitVec 4) (s : State) : Host.Outcome State Fault Refusal :=
  .next (updateSt (addRoundKey s.rk j.toNat) s)

/-- SB (R131). -/
def execSb (s : State) : Host.Outcome State Fault Refusal :=
  .next (updateSt (subBytes tables) s)

/-- SR (R132). -/
def execSr (s : State) : Host.Outcome State Fault Refusal :=
  .next (updateSt (fun b => .ok (shiftRows b)) s)

/-- MC (R133). -/
def execMc (s : State) : Host.Outcome State Fault Refusal :=
  .next (updateSt (mixColumns tables) s)

/-- ISR (R150). -/
def execIsr (s : State) : Host.Outcome State Fault Refusal :=
  .next (updateSt (fun b => .ok (invShiftRows b)) s)

/-- ISB (R151). -/
def execIsb (s : State) : Host.Outcome State Fault Refusal :=
  .next (updateSt (invSubBytes tables) s)

/-- IMC (R152). -/
def execImc (s : State) : Host.Outcome State Fault Refusal :=
  .next (updateSt (invMixColumns tables) s)

/-- KLD0(K): round key 0 of the schedule under construction is the key (R111). RK itself is written by KEYLOAD alone (R21). -/
def execKld0 (key : Block) (s : State) : Host.Outcome State Fault Refusal :=
  .next (updateRkn (loadInto key) s)

/-- KEXP(r): round key `r` of the schedule under construction from round key `r - 1`; `r` outside 1 to 10 raises
ROUND_INDEX (R115). -/
def execKexp (r : BitVec 4) (s : State) : Host.Outcome State Fault Refusal :=
  .next (updateRkn (expandInto tables r.toNat) s)

end Sys2Proof.Machine
end

