-- ==== Sys2Proof/Machine/Multiplier.lean ====
section
/-! DEFINITION. The seven multiplier selects as single operations (40_gf_multiply.md R91 to R97). The multiplier "reads no state
and writes none" (R90): the byte it returns is left in the model's own field `gfOut` (log 7). MC and IMC use the same
`gfmul`. -/

namespace Sys2Proof.Machine

/-- GFMUL.1 (R91). -/
def execGfmul1 (m : Byte) (s : State) : Host.Outcome State Fault Refusal :=
  .next (updateGf (gfmul tables 0x01 m) s)

/-- GFMUL.2 (R92). -/
def execGfmul2 (m : Byte) (s : State) : Host.Outcome State Fault Refusal :=
  .next (updateGf (gfmul tables 0x02 m) s)

/-- GFMUL.3 (R93). -/
def execGfmul3 (m : Byte) (s : State) : Host.Outcome State Fault Refusal :=
  .next (updateGf (gfmul tables 0x03 m) s)

/-- GFMUL.9 (R94). -/
def execGfmul9 (m : Byte) (s : State) : Host.Outcome State Fault Refusal :=
  .next (updateGf (gfmul tables 0x09 m) s)

/-- GFMUL.11 (R95). -/
def execGfmul11 (m : Byte) (s : State) : Host.Outcome State Fault Refusal :=
  .next (updateGf (gfmul tables 0x0b m) s)

/-- GFMUL.13 (R96). -/
def execGfmul13 (m : Byte) (s : State) : Host.Outcome State Fault Refusal :=
  .next (updateGf (gfmul tables 0x0d m) s)

/-- GFMUL.14 (R97). -/
def execGfmul14 (m : Byte) (s : State) : Host.Outcome State Fault Refusal :=
  .next (updateGf (gfmul tables 0x0e m) s)

end Sys2Proof.Machine
end

