-- ==== Sys2Proof/Machine/Dispatch.lean ====
section
/-! DEFINITION. The dispatch: each operation of CORE to its meaning, in the order of spec/opcode_table.json. -/

namespace Sys2Proof.Machine

def exec (i : Instr) (s : State) : Host.Outcome State Fault Refusal :=
  match i with
  | .keyload payload => Sys2Proof.Machine.execKeyload payload s
  | .encrypt payload => Sys2Proof.Machine.execEncrypt payload s
  | .decrypt payload => Sys2Proof.Machine.execDecrypt payload s
  | .gfmul1 m => Sys2Proof.Machine.execGfmul1 m s
  | .gfmul2 m => Sys2Proof.Machine.execGfmul2 m s
  | .gfmul3 m => Sys2Proof.Machine.execGfmul3 m s
  | .gfmul9 m => Sys2Proof.Machine.execGfmul9 m s
  | .gfmul11 m => Sys2Proof.Machine.execGfmul11 m s
  | .gfmul13 m => Sys2Proof.Machine.execGfmul13 m s
  | .gfmul14 m => Sys2Proof.Machine.execGfmul14 m s
  | .ark j => Sys2Proof.Machine.execArk j s
  | .sb => Sys2Proof.Machine.execSb s
  | .sr => Sys2Proof.Machine.execSr s
  | .mc => Sys2Proof.Machine.execMc s
  | .isr => Sys2Proof.Machine.execIsr s
  | .isb => Sys2Proof.Machine.execIsb s
  | .imc => Sys2Proof.Machine.execImc s
  | .kld0 key => Sys2Proof.Machine.execKld0 key s
  | .kexp r => Sys2Proof.Machine.execKexp r s

end Sys2Proof.Machine
end

