-- ==== Sys2Proof/WellFormed.lean ====
section
/-! DEFINITION. Which operations have an encoding: a command's length byte counts at most 255 payload bytes (00_scope.md R7
LEN_BITS, 30_encoding.md R71). Every other operand fits its type. -/

namespace Sys2Proof

/-- A payload the one-byte length field can count (R71). -/
abbrev payloadFits (p : List Byte) : Prop := p.length ≤ 255

/-- The operation can be written as an operation word. A payload of any length up to 255 is well formed, since the length
error is the machine's answer and not the encoding's (R72). -/
def Instr.wellFormed : Instr → Bool
  | .keyload p | .encrypt p | .decrypt p => decide (payloadFits p)
  | .gfmul1 _ | .gfmul2 _ | .gfmul3 _ | .gfmul9 _ | .gfmul11 _ | .gfmul13 _ | .gfmul14 _ => true
  | .ark _ | .sb | .sr | .mc | .isr | .isb | .imc | .kld0 _ | .kexp _ => true

end Sys2Proof
end

