-- ==== Sys2Proof/Decode.lean ====
section
/-! DEFINITION. The decoders of the three encoding spaces, total on any bytes and rejecting by name, then the encoder, both
written from the tables of 30_encoding.md (R71, R73, R75 to R78), and the reading of an opcode-table word. -/

namespace Sys2Proof

open Machine (bytesOfBlock blockOfBytes)

/-- Why a byte string is no operation of its space. -/
inductive Reject where
  /-- Bytes of the operation are still missing (R80). -/
  | incomplete
  /-- Bytes stand after the operation's last byte: the operation ends at `2 + C[1]` bytes whatever its code (R71). -/
  | overrun
  /-- The first byte is none of the three command codes (R75). -/
  | illegalCommand (c0 : Byte)
  /-- The multiplicand is none of the seven legal ones (R77). -/
  | unsupportedMultiplicand (n : Byte)
  /-- The label names nothing: 0x0 and 0xa to 0xf (R78). -/
  | unknownLabel (label : BitVec 4)
  /-- The operand bytes are not those of the select or label (the model's own encoding of internal operands, log 8). -/
  | badOperand
  deriving DecidableEq, Repr

/-- The command a code byte names (R73), all eight bits compared (mask 0xff), and every other value illegal (R75). -/
def decodeCode (c0 : Byte) (payload : List Byte) : Except Reject Instr :=
  if c0 = 0x01 then .ok (.keyload payload)
  else if c0 = 0x02 then .ok (.encrypt payload)
  else if c0 = 0x03 then .ok (.decrypt payload)
  else .error (.illegalCommand c0)

/-- Format CMD (R71): code byte, length byte `L`, `L` payload bytes. The extent is settled before the code is looked at
(R71, R80). -/
def decodeCmd : List Byte → Except Reject Instr
  | c0 :: len :: payload =>
    if payload.length < len.toNat then .error .incomplete
    else if len.toNat < payload.length then .error .overrun
    else decodeCode c0 payload
  | _ => .error .incomplete

/-- Format GFSEL (R76): the multiplicand `n` selects, and the data byte `m` follows it. -/
def decodeGfsel : List Byte → Except Reject Instr
  | [n, m] =>
    if n = 0x01 then .ok (.gfmul1 m)
    else if n = 0x02 then .ok (.gfmul2 m)
    else if n = 0x03 then .ok (.gfmul3 m)
    else if n = 0x09 then .ok (.gfmul9 m)
    else if n = 0x0b then .ok (.gfmul11 m)
    else if n = 0x0d then .ok (.gfmul13 m)
    else if n = 0x0e then .ok (.gfmul14 m)
    else .error (.unsupportedMultiplicand n)
  | _ => .error .badOperand

/-- A label without operand: the rest of the operation's bits and bytes are zero and none. -/
def noOperand (hi : BitVec 4) (rest : List Byte) (i : Instr) : Except Reject Instr :=
  if hi = 0 ∧ rest = [] then .ok i else .error .badOperand

/-- A label whose operand is a round index, a 4-bit counter (R26). -/
def roundOperand (hi : BitVec 4) (rest : List Byte) (f : BitVec 4 → Instr) : Except Reject Instr :=
  if rest = [] then .ok (f hi) else .error .badOperand

/-- A label whose operand is the 16 key bytes. -/
def keyOperand (hi : BitVec 4) (rest : List Byte) (f : Block → Instr) : Except Reject Instr :=
  match blockOfBytes rest with
  | some k => if hi = 0 then .ok (f k) else .error .badOperand
  | none => .error .badOperand

/-- Format UOP (R78): the label is bits 3:0 of the first byte. The operand's place (bits 7:4 for a round index, the bytes that
follow for a key) is the model's own (DESIGN CHOICE, log 8: the spec gives labels no operand encoding). -/
def decodeUop : List Byte → Except Reject Instr
  | b :: rest =>
    let label : BitVec 4 := b.extractLsb' 0 4
    let hi : BitVec 4 := b.extractLsb' 4 4
    if label = 0x1 then roundOperand hi rest .ark
    else if label = 0x2 then noOperand hi rest .sb
    else if label = 0x3 then noOperand hi rest .sr
    else if label = 0x4 then noOperand hi rest .mc
    else if label = 0x5 then noOperand hi rest .isr
    else if label = 0x6 then noOperand hi rest .isb
    else if label = 0x7 then noOperand hi rest .imc
    else if label = 0x8 then keyOperand hi rest .kld0
    else if label = 0x9 then roundOperand hi rest .kexp
    else .error (.unknownLabel label)
  | [] => .error .badOperand

/-- The decoder of a space (R70). -/
def decode : Space → List Byte → Except Reject Instr
  | .cmd, bs => decodeCmd bs
  | .gfsel, bs => decodeGfsel bs
  | .uop, bs => decodeUop bs

/-- A command word (R71): code, length, payload. -/
def encodeCmd (c0 : Byte) (payload : List Byte) : List Byte :=
  c0 :: BitVec.ofNat 8 payload.length :: payload

/-- The bytes of an operation in its space, from the encoding tables (R73, R76, R78). -/
def encode : Instr → List Byte
  | .keyload p => encodeCmd 0x01 p
  | .encrypt p => encodeCmd 0x02 p
  | .decrypt p => encodeCmd 0x03 p
  | .gfmul1 m => [0x01, m]
  | .gfmul2 m => [0x02, m]
  | .gfmul3 m => [0x03, m]
  | .gfmul9 m => [0x09, m]
  | .gfmul11 m => [0x0b, m]
  | .gfmul13 m => [0x0d, m]
  | .gfmul14 m => [0x0e, m]
  | .ark j => [j ++ (0x1 : BitVec 4)]
  | .sb => [0x02]
  | .sr => [0x03]
  | .mc => [0x04]
  | .isr => [0x05]
  | .isb => [0x06]
  | .imc => [0x07]
  | .kld0 k => 0x08 :: bytesOfBlock k
  | .kexp r => [r ++ (0x9 : BitVec 4)]

/-- The first `n` bytes of the word `w`, least significant first: byte `k` is bits `8k + 7` to `8k`. -/
def wordBytes : Nat → Nat → List Byte
  | 0, _ => []
  | n + 1, w => BitVec.ofNat 8 w :: wordBytes n (w / 256)

/-- Fill an operation's byte string with zero bytes up to `n` bytes. -/
def padTo (n : Nat) (bs : List Byte) : List Byte := bs ++ List.replicate (n - bs.length) 0

/-- An opcode-table word laid out as the bytes of an operation of a space, its missing operand bytes zero: a command is `2 + L`
bytes, a select has one data byte, KLD0 has 16 key bytes. -/
def tableBytes (sp : Space) (nbits w : Nat) : List Byte :=
  let bs := wordBytes (max 1 ((nbits + 7) / 8)) w
  match sp with
  | .cmd => padTo (2 + (bs.getD 1 0).toNat) bs
  | .gfsel => padTo 2 bs
  | .uop => padTo (if (bs.getD 0 0).extractLsb' 0 4 = (0x8 : BitVec 4) then 17 else 1) bs

/-- The spaces in which an opcode-table word is tried, in this order. A row of 4 bits is a label; a row of a whole byte does
not say its space, and the three spaces overlap numerically (R70), so it is tried as a command, then as a multiplicand
select, then as a label (DESIGN CHOICE, log 12: this order serves the table reading only; the machine itself always knows
the space it reads). -/
def tableSpaces (nbits : Nat) : List Space :=
  if nbits ≤ 4 then [.uop] else [.cmd, .gfsel, .uop]

/-- The first of the given spaces that accepts the table word, with the bytes and the operation. -/
def firstAccepted (nbits w : Nat) : List Space → Option (Space × List Byte × Instr)
  | [] => none
  | sp :: sps =>
    match decode sp (tableBytes sp nbits w) with
    | .ok i => some (sp, tableBytes sp nbits w, i)
    | .error _ => firstAccepted nbits w sps

/-- An opcode-table word as an operation: its space, its bytes and what it is. -/
def tableOperation (nbits w : Nat) : Option (Space × List Byte × Instr) :=
  firstAccepted nbits w (tableSpaces nbits)

/-- The operation the decoder reads from an opcode-table word. -/
def decodeTableWord (nbits w : Nat) : Option Instr :=
  (tableOperation nbits w).map fun x => x.2.2

end Sys2Proof
end

