-- ==== Sys2Proof/Machine/Fetch.lean ====
section
/-! DEFINITION. How the next operation reaches CORE: taking command bytes from the host (30_encoding.md R71, R80), the internal
issue of a select or a micro-operation (R70), and the fixed stage schedule (R79). -/

namespace Sys2Proof.Machine

/-- The interface after a whole command has been taken off it (R72, R80). -/
def takeCommand (s : State) : State := { s with rx := [] }

/-- The host presents bytes: they join those already taken of the command (R80). -/
def takeBytes (bytes : List Byte) (rest : List HostAct) (s : State) : State :=
  { s with inp := rest, rx := s.rx ++ bytes }

/-- The space and the bytes of an internal operation (R70). -/
def issueSpace : Issue → Space
  | .gfsel _ => .gfsel
  | .uop _ => .uop

/-- The bytes of an internal operation. -/
def issueBytes : Issue → List Byte
  | .gfsel bs => bs
  | .uop bs => bs

/-- An operation as it is issued inside CORE: the bytes of its encoding in its space. -/
def issueOf (i : Instr) : Issue :=
  match i.space with
  | .gfsel => .gfsel (encode i)
  | _ => .uop (encode i)

/-- The micro-operations of ENCRYPT in order (R79): 40 of them. -/
def encSchedule : List Instr :=
  [.ark 0] ++
  (List.range' 1 9).flatMap (fun r => [.sb, .sr, .mc, .ark (BitVec.ofNat 4 r)]) ++
  [.sb, .sr, .ark 10]

/-- The micro-operations of DECRYPT in order (R79): 40 of them. -/
def decSchedule : List Instr :=
  [.ark 10, .isr, .isb] ++
  (List.range' 1 9).reverse.flatMap (fun r => [.ark (BitVec.ofNat 4 r), .imc, .isr, .isb]) ++
  [.ark 0]

/-- The micro-operations of KEYLOAD in order (R79): 11 of them. -/
def keySchedule (key : Block) : List Instr :=
  .kld0 key :: (List.range' 1 10).map (fun r => .kexp (BitVec.ofNat 4 r))

/-- A block of 16 zero bytes, an operand for `placeOperation`. -/
def zeroBlock : Block := mkBlock fun _ _ => 0

/-- The state in which the next step runs the operation with the given bytes of the given space. A command is presented by the
host at an idle interface. A select or a micro-operation is issued inside CORE; a micro-operation is issued only inside a
command that has loaded ST (R23) or made the earlier round keys (R116), so ST and RKn hold a value then (log 13). -/
def placeOperation (sp : Space) (bytes : List Byte) (s : State) : State :=
  match sp with
  | .cmd => { s with seq := [], rx := [], inp := .present bytes :: s.inp }
  | .gfsel => { s with seq := .gfsel bytes :: s.seq }
  | .uop => { s with seq := .uop bytes :: s.seq, st := zeroBlock, rkn := Vector.replicate 11 zeroBlock }

end Sys2Proof.Machine
end

