-- ==== Sys2Proof/Machine/Step.lean ====
section
/-! DEFINITION. One step of the machine (44_commands.md R170): an internal operation if one is issued, else the next thing the
host does. -/

namespace Sys2Proof.Machine

/-- An internal operation runs (R70). A multiplicand outside the supported set raises MULTIPLICAND (R98); a label that names
nothing is a fault of the model (R78, U10). -/
def stepIssue (i : Issue) (s : State) : Host.Outcome State Fault Refusal :=
  match decode (issueSpace i) (issueBytes i) with
  | .ok instr => exec instr s
  | .error (.unsupportedMultiplicand _) => .next (takeFatal .multiplicand s)
  | .error (.unknownLabel label) => .fault (.unknownLabel label)
  | .error _ => .fault .badOperand

/-- The bytes taken so far are read (R80): while bytes are missing nothing happens; a legal command runs; an illegal one is
refused (R75); bytes beyond the command's end are a second command presented too early, which has no meaning (R244). -/
def stepCommand (s : State) : Host.Outcome State Fault Refusal :=
  match decode .cmd s.rx with
  | .ok instr => exec instr (takeCommand s)
  | .error .incomplete => .next s
  | .error .overrun => .refused .earlyCommand
  | .error _ => .next (refuseIllegal (takeCommand s))

/-- One step. With nothing issued and nothing for the host to do the machine idles (R227). -/
def step (s : State) : Host.Outcome State Fault Refusal :=
  match s.seq with
  | i :: rest => stepIssue i { s with seq := rest }
  | [] =>
    match s.inp with
    | [] => .next s
    | .reset :: rest => .next (applyReset { s with inp := rest })
    | .present bytes :: rest => stepCommand (takeBytes bytes rest s)

/-- The state with an opcode-table word placed where the next step reads its operation; a word that no space accepts is
presented as a command. -/
def State.withFetchWord (s : State) (nbits w : Nat) : State :=
  match tableOperation nbits w with
  | some (sp, bytes, _) => placeOperation sp bytes s
  | none => placeOperation .cmd (tableBytes .cmd nbits w) s

end Sys2Proof.Machine
end

