-- ==== Sys2Proof/Machine/Framing.lean ====
section
/-! DEFINITION. A model of the HOST beside CORE (45_host_framing.md): padding, unpadding, and the commands a host presents for a
message. None of it is hardware of CORE (00_scope.md R4, R190) and `step` uses none of it (log 14). -/

namespace Sys2Proof.Machine

/-- The padding marker byte (R191). -/
def marker : Byte := 0x80

/-- Padding: the marker, then zero bytes up to a multiple of 16 (R191). -/
def padMessage (message : List Byte) : List Byte :=
  message ++ marker :: List.replicate (15 - message.length % 16) 0

/-- Unpadding: everything before the first marker counted from the start, or the whole sequence if there is none (R194). The
bytes after the marker are not looked at: the documented defect is kept (U16). -/
def unpadMessage (bytes : List Byte) : List Byte := bytes.takeWhile (· ≠ marker)

/-- The first `n` pieces of 16 bytes (R192). -/
def piecesOf : Nat → List Byte → List (List Byte)
  | 0, _ => []
  | n + 1, bytes => bytes.take 16 :: piecesOf n (bytes.drop 16)

/-- A byte sequence cut into blocks `B_k = bytes[16k .. 16k+15]` (R192). For a length that is no multiple of 16 only the whole
blocks are given and the bytes after them are dropped (DESIGN CHOICE, log 19: R193 and N8 leave that case open). -/
def blocksOf (bytes : List Byte) : List (List Byte) := piecesOf (bytes.length / 16) bytes

/-- The host's part of `encrypt(plaintext_bytes)`: pad, cut, one ENCRYPT per block in order (R192). -/
def encryptScript (message : List Byte) : List HostAct :=
  (blocksOf (padMessage message)).map fun b => .present (encode (.encrypt b))

/-- The host's part of `decrypt(ciphertext_bytes)`: one DECRYPT per block in order, for a length that is a multiple of 16
(R193). For another length the function gives one DECRYPT per whole block and none for the rest; what the software does then
is not said (DESIGN CHOICE, log 19). -/
def decryptScript (ciphertext : List Byte) : List HostAct :=
  (blocksOf ciphertext).map fun b => .present (encode (.decrypt b))

/-- The data bytes of a list of responses, in order: what the host concatenates (R192, R193). A response without data adds
nothing and the data of the others is joined all the same (DESIGN CHOICE, log 20: what the host makes of a message in which
a block was refused is not said, U18). -/
def resultBytes (responses : List Response) : List Byte :=
  responses.flatMap fun q => match q.data with
    | none => []
    | some d => bytesOfBlock d

end Sys2Proof.Machine
end

