-- ==== Sys2Proof/Safety.lean ====
section
/-! DEFINITION. The terms in which claims are stated: the invariants of the machine, what the host can see of it, and the
spec's own formulas where they differ in form from the machine's definitions. -/

namespace Sys2Proof.Machine

/-! ### Invariants and views -/

/-- FCAUSE is 0 exactly while FATAL is 0 (10_state.md R25, R27). -/
def State.flagsAgree (s : State) : Prop := s.fcause = 0 ↔ s.fatal = false

/-- While KVALID is 1, RK holds the schedule KEYEXPAND makes from some key (00_scope.md R15, 44_commands.md R176). -/
def State.scheduleMade (s : State) : Prop :=
  s.kvalid = true → ∃ key, keyExpand tables key = .ok s.rk

/-- The invariant every step keeps. -/
def State.Inv (s : State) : Prop := s.flagsAgree ∧ s.scheduleMade

/-- Nothing but host commands and resets moves the machine, and no fatal error has been raised (R70, R218). -/
def State.healthy (s : State) : Prop := s.seq = [] ∧ s.fatal = false

/-- What the host can see: the responses it has been given and STATUS (10_state.md R22, R27, R31). -/
def State.hostView (s : State) : List Response × Byte := (s.out, status s)

/-- What the host can see of an outcome; a stop is seen as such. -/
def hostViewOf : Host.Outcome State Fault Refusal → Option (List Response × Byte)
  | .next s => some s.hostView
  | .fault _ => none
  | .refused _ => none

/-- An outcome under host commands that is no defect: the machine goes on without a fatal error, or the host broke the rule of
one command at a time (R218, R244). -/
def soundOutcome : Host.Outcome State Fault Refusal → Prop
  | .next s => s.healthy
  | .fault _ => False
  | .refused r => r = .earlyCommand

/-! ### Situations -/

/-- An idle interface at which the host presents the given bytes and then does `rest`. -/
def State.presenting (s : State) (bytes : List Byte) (rest : List HostAct) : State :=
  { s with seq := [], rx := [], inp := .present bytes :: rest }

/-- An idle interface at which the host goes on with `rest`. -/
def State.ready (s : State) (rest : List HostAct) : State := { s with seq := [], rx := [], inp := rest }

/-- A command word with the given code and payload (R71). -/
def commandBytes (c0 : Byte) (payload : List Byte) : List Byte := c0 :: BitVec.ofNat 8 payload.length :: payload

/-- The first check of R174 that fails for a complete command with code `c0` and `n` payload bytes, as the error it answers. -/
def firstError (c0 : Byte) (n : Nat) (s : State) : Option RespCode :=
  if s.fatal then some .errFatal
  else if c0 ≠ 0x01 ∧ c0 ≠ 0x02 ∧ c0 ≠ 0x03 then some .errCmd
  else if c0 = 0x01 ∧ n ≠ 16 then some .errKeylen
  else if (c0 = 0x02 ∨ c0 = 0x03) ∧ n ≠ 16 then some .errBlklen
  else if (c0 = 0x02 ∨ c0 = 0x03) ∧ s.kvalid = false then some .errNokey
  else none

/-- `t` is `s` after the fatal internal error with FCAUSE code `code` (R216): FATAL 1, FCAUSE the first cause, ST of no stated
value, one response ERR_FATAL without data, nothing issued left, everything else as it was. -/
def abortedWith (code : BitVec 2) (s t : State) : Prop :=
  ∃ st draws, t =
    { s with fatal := true, fcause := if s.fatal then s.fcause else code, st := st, draws := draws, seq := [],
             out := s.out ++ [⟨.errFatal, none⟩] }

/-- `t` is `s` after a block command that answered `d` (R172, R173): one response, ST of no stated value, everything else as it
was. -/
def answeredWith (d : Block) (s t : State) : Prop :=
  ∃ st draws, t = { s with st := st, draws := draws, out := s.out ++ [⟨.ok, some d⟩] }

/-! ### The spec's formulas -/

/-- The multiplicands of GFSET (R7, C2). -/
def gfSet : List Byte := [0x01, 0x02, 0x03, 0x09, 0x0b, 0x0d, 0x0e]

/-- `A(b)`, the affine map of R50. -/
def affine (b : Byte) : Byte :=
  b ^^^ b.rotateLeft 1 ^^^ b.rotateLeft 2 ^^^ b.rotateLeft 3 ^^^ b.rotateLeft 4 ^^^ 0x63

/-- SRMAP (R132). -/
def srMap : List Nat := [0, 5, 10, 15, 4, 9, 14, 3, 8, 13, 2, 7, 12, 1, 6, 11]

/-- ISRMAP (R150). -/
def isrMap : List Nat := [0, 13, 10, 7, 4, 1, 14, 11, 8, 5, 2, 15, 12, 9, 6, 3]

/-- The new column of MC (R133), with products for the table entries. -/
def mcColumn (a : Word) : Word :=
  ⟨gfProduct 2 a.b0 ^^^ gfProduct 3 a.b1 ^^^ a.b2 ^^^ a.b3,
   a.b0 ^^^ gfProduct 2 a.b1 ^^^ gfProduct 3 a.b2 ^^^ a.b3,
   a.b0 ^^^ a.b1 ^^^ gfProduct 2 a.b2 ^^^ gfProduct 3 a.b3,
   gfProduct 3 a.b0 ^^^ a.b1 ^^^ a.b2 ^^^ gfProduct 2 a.b3⟩

/-- The new column of IMC (R152), with products for the table entries. -/
def imcColumn (a : Word) : Word :=
  ⟨gfProduct 14 a.b0 ^^^ gfProduct 11 a.b1 ^^^ gfProduct 13 a.b2 ^^^ gfProduct 9 a.b3,
   gfProduct 9 a.b0 ^^^ gfProduct 14 a.b1 ^^^ gfProduct 11 a.b2 ^^^ gfProduct 13 a.b3,
   gfProduct 13 a.b0 ^^^ gfProduct 9 a.b1 ^^^ gfProduct 14 a.b2 ^^^ gfProduct 11 a.b3,
   gfProduct 11 a.b0 ^^^ gfProduct 13 a.b1 ^^^ gfProduct 9 a.b2 ^^^ gfProduct 14 a.b3⟩

/-- Schedule word `W[i]`, word `i mod 4` of round key `i / 4` (R11, R110); asked only for `i` below 44. -/
def scheduleWord (rk : RoundKeys) (i : Nat) : Word :=
  columnOf (rk[i / 4]?.getD zeroBlock) (Fin.ofNat 4 i)

/-- `t` is the round key KEXP(r) makes from `p` (R112 to R115), with `c` the round constant. -/
def isRoundKey (c : Byte) (p k : Block) : Prop :=
  ∃ x0 x1 x2 x3,
    readTable tables.sbox p.w3.b1.toNat = .ok x0 ∧ readTable tables.sbox p.w3.b2.toNat = .ok x1 ∧
    readTable tables.sbox p.w3.b3.toNat = .ok x2 ∧ readTable tables.sbox p.w3.b0.toNat = .ok x3 ∧
    k.w0 = Word.xor ⟨x0 ^^^ c, x1, x2, x3⟩ p.w0 ∧ k.w1 = k.w0.xor p.w1 ∧ k.w2 = k.w1.xor p.w2 ∧
    k.w3 = k.w2.xor p.w3

/-- The tables with the corruption of program PR5: `MIX[0][0] = 04` (95_test_vectors.md). -/
def corruptedTables : Tables :=
  { tables with
    mix := [[0x04, 0x03, 0x01, 0x01], [0x01, 0x02, 0x03, 0x01], [0x01, 0x01, 0x02, 0x03], [0x03, 0x01, 0x01, 0x02]] }

end Sys2Proof.Machine
end

