-- ==== Sys2Proof/Certificates/Slice0/Obligations.lean ====
section
/-! DEFINITION. The statements for the provers. Each docstring names the rule it formalises; where a clause rests on a choice of
the model it names the log entry. -/

open Sys2Proof Sys2Proof.Machine

/-! ## Tables and the multiplier -/

/-- R16, R51: the substitution tables undo each other, both ways, on every byte. -/
def Obligations.SubstitutionTablesInverse : Prop :=
  ∀ b : Byte,
    (∃ v, readTable tables.sbox b.toNat = .ok v ∧ readTable tables.invSbox v.toNat = .ok b) ∧
    (∃ v, readTable tables.invSbox b.toNat = .ok v ∧ readTable tables.sbox v.toNat = .ok b)

/-- R50: every entry of SBOX is the affine map of the inverse in GF(2^8), with 0 for the inverse of 0. (The contents of SBOX are
general knowledge, marked so by the spec.) -/
def Obligations.SboxIsAffineOfInverse : Prop :=
  ∀ a : Byte, ∃ x : Byte,
    (a = 0 → x = 0) ∧ (a ≠ 0 → gfProduct a x = 1) ∧ readTable tables.sbox a.toNat = .ok (affine x)

/-- R53 to R58: each Galois table entry is the expression in `xtime` that its rule gives. -/
def Obligations.GaloisTablesAsDefined : Prop :=
  ∀ m : Byte,
    readTable tables.gm2 m.toNat = .ok (xtime m) ∧
    readTable tables.gm3 m.toNat = .ok (xtime m ^^^ m) ∧
    readTable tables.gm9 m.toNat = .ok (xtime (xtime (xtime m)) ^^^ m) ∧
    readTable tables.gm11 m.toNat = .ok (xtime (xtime (xtime m)) ^^^ m ^^^ xtime m) ∧
    readTable tables.gm13 m.toNat = .ok (xtime (xtime (xtime m)) ^^^ m ^^^ xtime (xtime m)) ∧
    readTable tables.gm14 m.toNat = .ok (xtime (xtime (xtime m)) ^^^ xtime (xtime m) ^^^ xtime m)

/-- R102: the tables agree with each other as the rule says; each maps 0 to 0 and 1 to its multiplicand, is a bijection, and
respects xor. -/
def Obligations.GaloisTableLaws : Prop :=
  (∀ m : Byte, ∃ a b c d e,
    readTable tables.gm2 m.toNat = .ok a ∧ readTable tables.gm2 a.toNat = .ok b ∧ readTable tables.gm2 b.toNat = .ok c ∧
    readTable tables.gm3 m.toNat = .ok (a ^^^ m) ∧ readTable tables.gm9 m.toNat = .ok d ∧
    readTable tables.gm11 m.toNat = .ok (d ^^^ a) ∧ readTable tables.gm13 m.toNat = .ok e ∧ e ^^^ d = b ∧
    readTable tables.gm14 m.toNat = .ok (a ^^^ b ^^^ c)) ∧
  ∀ p ∈ [(tables.gm2, (2 : Byte)), (tables.gm3, 3), (tables.gm9, 9), (tables.gm11, 11), (tables.gm13, 13),
      (tables.gm14, 14)],
    readTable p.1 0 = .ok 0 ∧ readTable p.1 1 = .ok p.2 ∧
    (∀ v : Byte, ∃! m : Byte, readTable p.1 m.toNat = .ok v) ∧
    ∀ a b : Byte, ∃ x y, readTable p.1 a.toNat = .ok x ∧ readTable p.1 b.toNat = .ok y ∧
      readTable p.1 (a ^^^ b).toNat = .ok (x ^^^ y)

/-- R61, R217: an index outside its table raises TABLE_INDEX, an index above 10 of RK raises ROUND_INDEX, and an index inside
never raises. -/
def Obligations.IndexOutsideTableRaises : Prop :=
  (∀ t ∈ [tables.sbox, tables.invSbox, tables.gm2, tables.gm3, tables.gm9, tables.gm11, tables.gm13, tables.gm14],
    ∀ i : Nat, (256 ≤ i → readTable t i = .error .tableIndex) ∧ (i < 256 → ∃ b, readTable t i = .ok b)) ∧
  (∀ i : Nat, (22 ≤ i → readRcon tables.rcon i = .error .tableIndex) ∧
    (i < 22 → ∃ b, readRcon tables.rcon i = .ok b)) ∧
  (∀ t ∈ [tables.mix, tables.invMix], ∀ r c : Nat,
    (4 ≤ r ∨ 4 ≤ c → readEntry t r c = .error .tableIndex) ∧ (r < 4 ∧ c < 4 → ∃ b, readEntry t r c = .ok b)) ∧
  (∀ (rk : RoundKeys) (j : Nat), (11 ≤ j → readRk rk j = .error .roundIndex) ∧
    ∀ h : j < 11, readRk rk j = .ok rk[j])

/-- R59: RCON has 22 entries, starts at 1 and doubles up to entry 9, and the key schedule is the same whatever the twelve
entries of RCON_TAIL are. (The ten values are general knowledge, marked so by the spec.) -/
def Obligations.RconDoublesAndTailIsUnread : Prop :=
  tables.rcon.length = 22 ∧ readRcon tables.rcon 0 = .ok 1 ∧
  (∀ i < 9, ∃ c, readRcon tables.rcon i = .ok c ∧ readRcon tables.rcon (i + 1) = .ok (xtime c)) ∧
  (∀ (tail : List Byte) (key : Block),
    keyExpand { tables with rcon := tables.rcon.take 10 ++ tail } key = keyExpand tables key)

/-- R99: the product is commutative and associative, distributes over xor, has unit 1 and zero 0, and every nonzero byte has an
inverse. -/
def Obligations.ProductIsFieldMultiplication : Prop :=
  (∀ a b : Byte, gfProduct a b = gfProduct b a) ∧
  (∀ a b c : Byte, gfProduct (gfProduct a b) c = gfProduct a (gfProduct b c)) ∧
  (∀ a b c : Byte, gfProduct a (b ^^^ c) = gfProduct a b ^^^ gfProduct a c) ∧
  (∀ a : Byte, gfProduct a 1 = a ∧ gfProduct a 0 = 0) ∧
  (∀ a : Byte, a ≠ 0 → ∃ b, gfProduct a b = 1)

/-- R100: for every supported multiplicand the table lookup is the product. -/
def Obligations.MultiplierIsProduct : Prop :=
  ∀ n ∈ gfSet, ∀ m : Byte, gfmul tables n m = .ok (gfProduct n m)

/-- R77, R98: an unsupported multiplicand raises MULTIPLICAND whatever the tables and the data byte; a block command in which
that happens ends with ERR_FATAL, no data, and the sticky flag set. -/
def Obligations.UnsupportedMultiplicandAborts : Prop :=
  (∀ (T : Tables) (n m : Byte), n ∉ gfSet → gfmul T n m = .error .multiplicand) ∧
  (∀ (T : Tables) (p : List Byte) (b : Block) (s : State),
    blockOfBytes p = some b → s.kvalid = true → s.fatal = false →
    (encBlock T s.rk b = .error .multiplicand → abortedWith 2 s (encryptWith T p s)) ∧
    (decBlock T s.rk b = .error .multiplicand → abortedWith 2 s (decryptWith T p s)))

/-- R91 to R97: each multiplier select completes in every state for every data byte, with the byte its rule gives; nothing but
the model's result field changes (the field `gfOut` is the model's own, log 7). -/
def Obligations.MultiplierSelectsComplete : Prop :=
  ∀ (s : State) (m : Byte),
    exec (.gfmul1 m) s = .next { s with gfOut := m } ∧
    exec (.gfmul2 m) s = .next { s with gfOut := xtime m } ∧
    exec (.gfmul3 m) s = .next { s with gfOut := xtime m ^^^ m } ∧
    exec (.gfmul9 m) s = .next { s with gfOut := xtime (xtime (xtime m)) ^^^ m } ∧
    exec (.gfmul11 m) s = .next { s with gfOut := xtime (xtime (xtime m)) ^^^ xtime m ^^^ m } ∧
    exec (.gfmul13 m) s = .next { s with gfOut := xtime (xtime (xtime m)) ^^^ xtime (xtime m) ^^^ m } ∧
    exec (.gfmul14 m) s = .next { s with gfOut := xtime (xtime (xtime m)) ^^^ xtime (xtime m) ^^^ xtime m }

/-! ## The micro-operations -/

/-- R130: ARK(j) for `j` up to 10 xors round key `j` into ST, cell by cell, and is its own inverse; `j` above 10 raises
ROUND_INDEX. Nothing else changes. Its label is 0x1. That a single ARK out of range takes the fatal error, with a response
ERR_FATAL and nothing issued left, although no command is running, is the model's choice (logs 5 and 17; the abort: R216,
R217). -/
def Obligations.ArkCombinesRoundKey : Prop :=
  (∀ j, (encode (.ark j)).map (·.extractLsb' 0 4) = [(0x1 : BitVec 4)]) ∧
  (∀ (s : State) (j : BitVec 4) (h : j.toNat < 11), ∃ t,
    exec (.ark j) s = .next { s with st := t } ∧
    (∀ r c, cell t r c = cell s.st r c ^^^ cell s.rk[j.toNat] r c) ∧
    exec (.ark j) { s with st := t } = .next s) ∧
  (∀ (s : State) (j : BitVec 4), 11 ≤ j.toNat → ∃ t, exec (.ark j) s = .next t ∧ abortedWith 3 s t)

/-- R131: SB replaces every byte of ST through SBOX and changes nothing else; SBOX has no fixed point and no complemented
one; the label is 0x2. -/
def Obligations.SbSubstitutesBytes : Prop :=
  (encode .sb).map (·.extractLsb' 0 4) = [(0x2 : BitVec 4)] ∧
  (∀ s : State, ∃ t, exec .sb s = .next { s with st := t } ∧
    ∀ r c, readTable tables.sbox (cell s.st r c).toNat = .ok (cell t r c)) ∧
  readTable tables.sbox 0 = .ok 0x63 ∧
  (∀ b v : Byte, readTable tables.sbox b.toNat = .ok v → v ≠ b ∧ v ≠ b ^^^ 0xff)

/-- R132: SR moves the byte of column `c + r` to column `c` in row `r`; by linear index, output byte `i` is input byte
`SRMAP[i]`. Nothing else changes. Its label is 0x3. -/
def Obligations.SrRotatesRowsLeft : Prop :=
  (encode .sr).map (·.extractLsb' 0 4) = [(0x3 : BitVec 4)] ∧
  ∀ s : State, ∃ t, exec .sr s = .next { s with st := t } ∧
    (∀ r c, cell t r c = cell s.st r (c + r)) ∧
    (∀ i < 16, (bytesOfBlock t)[i]? = (bytesOfBlock s.st)[srMap.getD i 16]?)

/-- R133: MC replaces each column by the matrix-vector product, keeps a column of four equal bytes, and is linear. Nothing but
ST changes. The label is 0x4. -/
def Obligations.McDiffusesColumns : Prop :=
  (encode .mc).map (·.extractLsb' 0 4) = [(0x4 : BitVec 4)] ∧
  (∀ s : State, ∃ t, exec .mc s = .next { s with st := t } ∧ ∀ c, columnOf t c = mcColumn (columnOf s.st c)) ∧
  (∀ a : Byte, mcColumn ⟨a, a, a, a⟩ = ⟨a, a, a, a⟩) ∧
  (∀ a b : Block, ∃ x y, mixColumns tables a = .ok x ∧ mixColumns tables b = .ok y ∧
    mixColumns tables (a.xor b) = .ok (x.xor y))

/-- R150: ISR moves the byte of column `c - r` to column `c` in row `r`; by linear index, output byte `i` is input byte
`ISRMAP[i]`; ISR and SR undo each other. Nothing else changes. Its label is 0x5. -/
def Obligations.IsrRotatesRowsRight : Prop :=
  (encode .isr).map (·.extractLsb' 0 4) = [(0x5 : BitVec 4)] ∧
  (∀ s : State, ∃ t, exec .isr s = .next { s with st := t } ∧
    (∀ r c, cell t r c = cell s.st r (c - r)) ∧
    (∀ i < 16, (bytesOfBlock t)[i]? = (bytesOfBlock s.st)[isrMap.getD i 16]?)) ∧
  (∀ b : Block, invShiftRows (shiftRows b) = b ∧ shiftRows (invShiftRows b) = b)

/-- R151: ISB replaces every byte of ST through INV_SBOX and changes nothing else; ISB and SB undo each other; ISB commutes
with ISR; INV_SBOX has no fixed point; the label is 0x6. -/
def Obligations.IsbSubstitutesBack : Prop :=
  (encode .isb).map (·.extractLsb' 0 4) = [(0x6 : BitVec 4)] ∧
  (∀ s : State, ∃ t, exec .isb s = .next { s with st := t } ∧
    ∀ r c, readTable tables.invSbox (cell s.st r c).toNat = .ok (cell t r c)) ∧
  readTable tables.invSbox 0x63 = .ok 0x00 ∧ readTable tables.invSbox 0x00 = .ok 0x52 ∧
  (∀ b v : Byte, readTable tables.invSbox b.toNat = .ok v → v ≠ b) ∧
  (∀ b : Block, (subBytes tables b >>= invSubBytes tables) = .ok b ∧
    (invSubBytes tables b >>= subBytes tables) = .ok b ∧
    invSubBytes tables (invShiftRows b) = (invSubBytes tables b >>= fun x => .ok (invShiftRows x)))

/-- R152: IMC replaces each column by the inverse matrix-vector product, keeps a column of four equal bytes, is linear, and
undoes MC as MC undoes it. Nothing but ST changes. The label is 0x7. -/
def Obligations.ImcDiffusesBack : Prop :=
  (encode .imc).map (·.extractLsb' 0 4) = [(0x7 : BitVec 4)] ∧
  (∀ s : State, ∃ t, exec .imc s = .next { s with st := t } ∧ ∀ c, columnOf t c = imcColumn (columnOf s.st c)) ∧
  (∀ a : Byte, imcColumn ⟨a, a, a, a⟩ = ⟨a, a, a, a⟩) ∧
  (∀ a b : Block, ∃ x y, invMixColumns tables a = .ok x ∧ invMixColumns tables b = .ok y ∧
    invMixColumns tables (a.xor b) = .ok (x.xor y)) ∧
  (∀ b : Block, (mixColumns tables b >>= invMixColumns tables) = .ok b ∧
    (invMixColumns tables b >>= mixColumns tables) = .ok b)

/-- R111: KLD0 puts the key into round key 0 of the schedule under construction and changes nothing else (the place RKn is the
model's own, log 6); the columns of the key are its words. -/
def Obligations.Kld0LoadsKey : Prop :=
  ∀ (s : State) (key : Block),
    exec (.kld0 key) s = .next { s with rkn := s.rkn.set 0 key } ∧
    ∀ rk, keyExpand tables key = .ok rk → ∀ c : Fin 4, scheduleWord rk c.val = columnOf key c

/-- R112 to R115: KEXP(r) for `r` 1 to 10 makes round key `r` from round key `r - 1` by rotate, substitute, round constant and
the chain of xors, in the schedule under construction (log 6), and changes nothing else; any other `r` raises
ROUND_INDEX. That a single KEXP out of range takes the fatal error, with a response ERR_FATAL and nothing issued left,
although no command is running, is the model's choice (logs 5 and 17; the abort: R216, R217). -/
def Obligations.KexpMakesRoundKey : Prop :=
  (∀ (s : State) (r : BitVec 4) (_ : 1 ≤ r.toNat) (_ : r.toNat ≤ 10), ∃ k c,
    exec (.kexp r) s = .next { s with rkn := s.rkn.set r.toNat k } ∧
    readRcon tables.rcon (r.toNat - 1) = .ok c ∧ isRoundKey c s.rkn[r.toNat - 1] k) ∧
  (∀ (s : State) (r : BitVec 4), ¬ (1 ≤ r.toNat ∧ r.toNat ≤ 10) →
    ∃ t, exec (.kexp r) s = .next t ∧ abortedWith 3 s t)

/-! ## The composites -/

/-- R110, R116, R117: every key has a schedule; its words follow the word-indexed recurrence. -/
def Obligations.KeyScheduleWordForm : Prop :=
  ∀ key : Block, ∃ rk, keyExpand tables key = .ok rk ∧ rk[0] = key ∧
    ∀ i, 4 ≤ i → i < 44 →
      (i % 4 ≠ 0 → scheduleWord rk i = (scheduleWord rk (i - 4)).xor (scheduleWord rk (i - 1))) ∧
      (i % 4 = 0 → ∃ u t,
        subWord tables (rotWord (scheduleWord rk (i - 1))) = .ok u ∧ addRcon tables u (i / 4) = .ok t ∧
        scheduleWord rk i = (scheduleWord rk (i - 4)).xor t)

/-- R154: DEC_BLOCK undoes ENC_BLOCK and ENC_BLOCK undoes DEC_BLOCK, for every block and any eleven round keys. -/
def Obligations.DecryptUndoesEncrypt : Prop :=
  ∀ (rk : RoundKeys) (b : Block),
    (∃ d, encBlock tables rk b = .ok d ∧ decBlock tables rk d = .ok b) ∧
    (∃ d, decBlock tables rk b = .ok d ∧ encBlock tables rk d = .ok b)

/-- R79, R134: the 40 micro-operations of ENCRYPT's schedule, run one step at a time, do to ST what ENC_BLOCK does, and change
nothing else. (Running them one step at a time is the model's own view, log 5.) -/
def Obligations.EncryptScheduleIsEncBlock : Prop :=
  encSchedule.length = 40 ∧
  ∀ s : State, ∃ d, encBlock tables s.rk s.st = .ok d ∧
    core.run 40 { s with seq := encSchedule.map issueOf } = .next { s with seq := [], st := d }

/-- R79, R153: the same of DECRYPT's schedule and DEC_BLOCK (log 5). -/
def Obligations.DecryptScheduleIsDecBlock : Prop :=
  decSchedule.length = 40 ∧
  ∀ s : State, ∃ d, decBlock tables s.rk s.st = .ok d ∧
    core.run 40 { s with seq := decSchedule.map issueOf } = .next { s with seq := [], st := d }

/-- R79, R116: the 11 micro-operations of KEYLOAD's schedule, run one step at a time, make KEYEXPAND's schedule in RKn (logs 5
and 6), and change nothing else. -/
def Obligations.KeySchedulingIsKeyExpand : Prop :=
  ∀ (s : State) (key : Block), (keySchedule key).length = 11 ∧
    ∃ rk, keyExpand tables key = .ok rk ∧
      core.run 11 { s with seq := (keySchedule key).map issueOf } = .next { s with seq := [], rkn := rk }

/-! ## The commands -/

/-- R171: KEYLOAD of 16 bytes installs the schedule of the key, whose round key 0 is the key, sets KVALID and answers OK
without data; while FATAL is 1 it answers ERR_FATAL, with another length ERR_KEYLEN, and changes nothing; its
code is 0x01. -/
def Obligations.KeyloadInstallsSchedule : Prop :=
  ∀ (s : State) (p : List Byte),
    (p.length ≤ 255 → decode .cmd (commandBytes 0x01 p) = .ok (.keyload p)) ∧
    (s.fatal = false → p.length = 16 → ∃ key rk,
      bytesOfBlock key = p ∧ keyExpand tables key = .ok rk ∧ rk[0] = key ∧
      exec (.keyload p) s = .next { s with rk := rk, kvalid := true, out := s.out ++ [⟨.ok, none⟩] }) ∧
    (s.fatal = false → p.length ≠ 16 → exec (.keyload p) s = .next { s with out := s.out ++ [⟨.errKeylen, none⟩] }) ∧
    (s.fatal = true → exec (.keyload p) s = .next { s with out := s.out ++ [⟨.errFatal, none⟩] })

/-- R172: ENCRYPT of 16 bytes with a key loaded answers ENC_BLOCK of them and leaves ST without a value (log 2), all else as it
was; the three refusals answer their codes and change nothing; its code is 0x02. -/
def Obligations.EncryptAnswersEncBlock : Prop :=
  ∀ (s : State) (p : List Byte),
    (p.length ≤ 255 → decode .cmd (commandBytes 0x02 p) = .ok (.encrypt p)) ∧
    (s.fatal = false → s.kvalid = true → p.length = 16 → ∃ b d t,
      bytesOfBlock b = p ∧ encBlock tables s.rk b = .ok d ∧ exec (.encrypt p) s = .next t ∧ answeredWith d s t) ∧
    (s.fatal = true → exec (.encrypt p) s = .next { s with out := s.out ++ [⟨.errFatal, none⟩] }) ∧
    (s.fatal = false → p.length ≠ 16 → exec (.encrypt p) s = .next { s with out := s.out ++ [⟨.errBlklen, none⟩] }) ∧
    (s.fatal = false → p.length = 16 → s.kvalid = false →
      exec (.encrypt p) s = .next { s with out := s.out ++ [⟨.errNokey, none⟩] })

/-- R173: DECRYPT likewise with DEC_BLOCK, its code 0x03; and DECRYPT of what ENCRYPT answered returns the original block, and the other way
round. -/
def Obligations.DecryptAnswersDecBlock : Prop :=
  (∀ (s : State) (p : List Byte),
    (p.length ≤ 255 → decode .cmd (commandBytes 0x03 p) = .ok (.decrypt p)) ∧
    (s.fatal = false → s.kvalid = true → p.length = 16 → ∃ b d t,
      bytesOfBlock b = p ∧ decBlock tables s.rk b = .ok d ∧ exec (.decrypt p) s = .next t ∧ answeredWith d s t) ∧
    (s.fatal = true → exec (.decrypt p) s = .next { s with out := s.out ++ [⟨.errFatal, none⟩] }) ∧
    (s.fatal = false → p.length ≠ 16 → exec (.decrypt p) s = .next { s with out := s.out ++ [⟨.errBlklen, none⟩] }) ∧
    (s.fatal = false → p.length = 16 → s.kvalid = false →
      exec (.decrypt p) s = .next { s with out := s.out ++ [⟨.errNokey, none⟩] })) ∧
  (∀ (s : State) (b : Block), s.fatal = false → s.kvalid = true → ∃ d t u e v w,
    exec (.encrypt (bytesOfBlock b)) s = .next t ∧ answeredWith d s t ∧
    exec (.decrypt (bytesOfBlock d)) t = .next u ∧ answeredWith b t u ∧
    exec (.decrypt (bytesOfBlock b)) s = .next v ∧ answeredWith e s v ∧
    exec (.encrypt (bytesOfBlock e)) v = .next w ∧ answeredWith b v w)

/-- R212: a KEYLOAD whose length is not 16 is answered `01 00`; its payload is discarded and nothing else changes. -/
def Obligations.KeyLengthError : Prop :=
  ∀ (s : State) (p : List Byte) (rest : List HostAct),
    s.fatal = false → p.length ≤ 255 → p.length ≠ 16 →
    step (s.presenting (commandBytes 0x01 p) rest)
      = .next { s.ready rest with out := s.out ++ [⟨.errKeylen, none⟩] } ∧
    responseBytes ⟨.errKeylen, none⟩ = [0x01, 0x00]

/-- R213: an ENCRYPT or DECRYPT whose length is not 16 is answered `02 00`, whether or not a key is loaded; nothing else
changes. -/
def Obligations.BlockLengthError : Prop :=
  ∀ (s : State) (c0 : Byte) (p : List Byte) (rest : List HostAct),
    c0 = 0x02 ∨ c0 = 0x03 → s.fatal = false → p.length ≤ 255 → p.length ≠ 16 →
    step (s.presenting (commandBytes c0 p) rest)
      = .next { s.ready rest with out := s.out ++ [⟨.errBlklen, none⟩] } ∧
    responseBytes ⟨.errBlklen, none⟩ = [0x02, 0x00]

/-- R214: an ENCRYPT or DECRYPT of 16 bytes while KVALID is 0 is answered `03 00`; nothing else changes. -/
def Obligations.NoKeyError : Prop :=
  ∀ (s : State) (c0 : Byte) (p : List Byte) (rest : List HostAct),
    c0 = 0x02 ∨ c0 = 0x03 → s.fatal = false → p.length = 16 → s.kvalid = false →
    step (s.presenting (commandBytes c0 p) rest)
      = .next { s.ready rest with out := s.out ++ [⟨.errNokey, none⟩] } ∧
    responseBytes ⟨.errNokey, none⟩ = [0x03, 0x00]

/-- R75, R215: each of the 253 other codes is answered `04 00`, whatever its payload; nothing else changes. -/
def Obligations.IllegalCommandError : Prop :=
  ∀ (s : State) (c0 : Byte) (p : List Byte) (rest : List HostAct),
    c0 ∉ [0x01, 0x02, 0x03] → s.fatal = false → p.length ≤ 255 →
    step (s.presenting (commandBytes c0 p) rest)
      = .next { s.ready rest with out := s.out ++ [⟨.errCmd, none⟩] } ∧
    responseBytes ⟨.errCmd, none⟩ = [0x04, 0x00]

/-- R216: while FATAL is 1 every command of any kind is answered `0f 00` and changes nothing. -/
def Obligations.FatalRefusesEveryCommand : Prop :=
  ∀ (s : State) (c0 : Byte) (p : List Byte) (rest : List HostAct),
    s.fatal = true → p.length ≤ 255 →
    step (s.presenting (commandBytes c0 p) rest)
      = .next { s.ready rest with out := s.out ++ [⟨.errFatal, none⟩] } ∧
    responseBytes ⟨.errFatal, none⟩ = [0x0f, 0x00]

/-- R174, R220: for every complete command the first check that fails, in the order FATAL, code, length, key, decides the one
response, and nothing else changes; if none fails the command answers OK. -/
def Obligations.ChecksInOrder : Prop :=
  ∀ (s : State) (c0 : Byte) (p : List Byte) (rest : List HostAct), p.length ≤ 255 →
    (∀ e, firstError c0 p.length s = some e →
      step (s.presenting (commandBytes c0 p) rest) = .next { s.ready rest with out := s.out ++ [⟨e, none⟩] }) ∧
    (firstError c0 p.length s = none →
      ∃ t data, step (s.presenting (commandBytes c0 p) rest) = .next t ∧ t.out = s.out ++ [⟨.ok, data⟩] ∧
        (data = none ↔ c0 = 0x01))

/-- R216: whatever the tables, a command whose work raises a cause stops with no result: FATAL and FCAUSE are written, the
answer is ERR_FATAL, RK and KVALID keep their values. -/
def Obligations.FatalErrorAborts : Prop :=
  ∀ (T : Tables) (s : State) (p : List Byte) (b : Block) (cause : Cause),
    blockOfBytes p = some b → s.fatal = false →
    (keyExpand T b = .error cause → abortedWith (causeCode cause) s (keyloadWith T p s)) ∧
    (s.kvalid = true → encBlock T s.rk b = .error cause → abortedWith (causeCode cause) s (encryptWith T p s)) ∧
    (s.kvalid = true → decBlock T s.rk b = .error cause → abortedWith (causeCode cause) s (decryptWith T p s))

/-- 95_test_vectors.md PR5: with `MIX[0][0]` corrupted to 04 every ENCRYPT that passes its checks aborts with cause MULTIPLICAND,
and KEYLOAD and DECRYPT are unaffected. -/
def Obligations.CorruptedMatrixAborts : Prop :=
  ∀ (s : State) (p : List Byte),
    (s.fatal = false → s.kvalid = true → p.length = 16 → abortedWith 2 s (encryptWith corruptedTables p s)) ∧
    keyloadWith corruptedTables p s = keyloadWith tables p s ∧ decryptWith corruptedTables p s = decryptWith tables p s

/-- R5: the answer to a block command depends on the schedule and the 16 input bytes and on nothing else. -/
def Obligations.BlockAnswersArePure : Prop :=
  ∀ (s s' : State) (p : List Byte), s.rk = s'.rk → s.fatal = false → s'.fatal = false → s.kvalid = true →
    s'.kvalid = true → p.length = 16 →
    (∃ d t t', exec (.encrypt p) s = .next t ∧ exec (.encrypt p) s' = .next t' ∧ answeredWith d s t ∧
      answeredWith d s' t') ∧
    (∃ d t t', exec (.decrypt p) s = .next t ∧ exec (.decrypt p) s' = .next t' ∧ answeredWith d s t ∧
      answeredWith d s' t')

/-- R175: a successful KEYLOAD while KVALID is 1 replaces the schedule, and the next block command uses the new one. -/
def Obligations.RekeyTakesEffect : Prop :=
  ∀ (s : State) (key b : Block), s.fatal = false → s.kvalid = true → s.seq = [] → s.rx = [] →
    ∃ rk d e u v,
      keyExpand tables key = .ok rk ∧ encBlock tables rk b = .ok d ∧ decBlock tables rk b = .ok e ∧
      core.run 2 { s with inp := [.present (commandBytes 0x01 (bytesOfBlock key)),
        .present (commandBytes 0x02 (bytesOfBlock b))] } = .next u ∧
      u.out = s.out ++ [⟨.ok, none⟩, ⟨.ok, some d⟩] ∧ u.rk = rk ∧
      core.run 2 { s with inp := [.present (commandBytes 0x01 (bytesOfBlock key)),
        .present (commandBytes 0x03 (bytesOfBlock b))] } = .next v ∧
      v.out = s.out ++ [⟨.ok, none⟩, ⟨.ok, some e⟩] ∧ v.rk = rk

/-! ## The interface -/

/-- R27: STATUS shows KVALID in bit 0, FATAL in bit 1, FCAUSE in bits 3:2 and zeros in bits 7:4; after a fatal error with cause
`c` it is `2 + 4c + KVALID`. -/
def Obligations.StatusLayout : Prop :=
  (∀ s : State, (status s).getLsbD 0 = s.kvalid ∧ (status s).getLsbD 1 = s.fatal ∧
    (status s).extractLsb' 2 2 = s.fcause ∧ (status s).extractLsb' 4 4 = (0 : BitVec 4)) ∧
  status State.reset = 0x00 ∧
  (∀ (s : State) (cause : Cause), s.fatal = false →
    (status (takeFatal cause s)).toNat = 2 + 4 * (causeCode cause).toNat + s.kvalid.toNat) ∧
  (∀ (s : State) (p : List Byte), s.fatal = false → s.fcause = 0 → p.length = 16 →
    ∃ t, exec (.keyload p) s = .next t ∧ status t = 0x01)

/-- R74: a response is `code, 00` without data and `code, 10, D[0..15]` with data; the codes are 0, 1, 2, 3, 4 and f. -/
def Obligations.ResponseLayout : Prop :=
  (∀ code, responseBytes ⟨code, none⟩ = [(0 : BitVec 4) ++ respCode code, 0x00]) ∧
  (∀ d, responseBytes ⟨.ok, some d⟩ = 0x00 :: 0x10 :: bytesOfBlock d) ∧
  respCode .ok = 0x0 ∧ respCode .errKeylen = 0x1 ∧ respCode .errBlklen = 0x2 ∧ respCode .errNokey = 0x3 ∧
  respCode .errCmd = 0x4 ∧ respCode .errFatal = 0xf

/-- R80: while bytes of a command are missing, nothing but the interface buffer changes and nothing is answered. -/
def Obligations.PartialCommandChangesNothing : Prop :=
  ∀ (s : State) (bytes : List Byte) (rest : List HostAct),
    s.seq = [] → s.inp = .present bytes :: rest →
    ((s.rx ++ bytes).length < 2 ∨ (s.rx ++ bytes).length < 2 + ((s.rx ++ bytes).getD 1 0).toNat) →
    step s = .next { s with inp := rest, rx := s.rx ++ bytes }

/-- R71, R80: it does not matter in how many pieces the host presents a command, as long as the pieces before the last leave
it incomplete (presentation in pieces is the model's interface, log 4). -/
def Obligations.PresentationInPieces : Prop :=
  ∀ (s : State) (front back : List Byte) (rest : List HostAct),
    s.seq = [] → s.rx = [] →
    (front.length < 2 ∨ front.length < 2 + (front.getD 1 0).toNat) →
    core.run 2 { s with inp := .present front :: .present back :: rest }
      = core.run 1 { s with inp := .present (front ++ back) :: rest }

/-- R244, U11: bytes beyond the end of a command, presented before its response, have no meaning: the model stops by name
(log 9). -/
def Obligations.EarlyCommandHasNoMeaning : Prop :=
  ∀ (s : State) (c0 len : Byte) (more : List Byte) (rest : List HostAct),
    len.toNat < more.length → step (s.presenting (c0 :: len :: more) rest) = .refused .earlyCommand

/-- R170: every complete command is answered by exactly one response and the machine goes on; the host's later actions stay as
they were. -/
def Obligations.OneResponsePerCommand : Prop :=
  ∀ (s : State) (c0 : Byte) (p : List Byte) (rest : List HostAct), p.length ≤ 255 →
    ∃ q t, step (s.presenting (commandBytes c0 p) rest) = .next t ∧ t.out = s.out ++ [q] ∧
      t.inp = rest ∧ t.rx = [] ∧ t.seq = []

/-- R240, R246: reset at any time clears the flags and abandons a command being taken, without a response; it is the way out of
FATAL. What RK and ST hold afterwards is not stated (log 1). -/
def Obligations.ResetClearsFlags : Prop :=
  ∀ (s : State) (rest : List HostAct), s.seq = [] → s.inp = .reset :: rest →
    ∃ t, step s = .next t ∧ t.kvalid = false ∧ t.fatal = false ∧ t.fcause = 0 ∧ status t = 0x00 ∧ t.rx = [] ∧
      t.seq = [] ∧ t.inp = rest ∧ t.out = s.out

/-! ## Encoding and fetching -/

/-- R71, R73, R76, R78: decoding the encoding of a well-formed operation in its space gives the operation back, with every
operand. -/
def Obligations.DecodeEncodeAgree : Prop :=
  ∀ i : Instr, i.wellFormed = true → decode i.space (encode i) = .ok i

/-- R70 to R78: an operation word has one meaning: what decodes to an operation is that operation's encoding, and the operation
is well formed. That a label byte with other bits 7:4 than its operand, or with bytes after it, decodes to nothing, and the
two-byte shape of a select, are the model's choice (log 8: R76 and R78 encode the select and the label alone). -/
def Obligations.EncodeDecodeAgree : Prop :=
  ∀ (sp : Space) (bytes : List Byte) (i : Instr), decode sp bytes = .ok i → encode i = bytes ∧ i.wellFormed = true

/-- R73, R76, R78: words written out from the encoding tables decode to the operations they stand for (operand places of labels:
log 8). -/
def Obligations.SpecWordsDecode : Prop :=
  decode .cmd [0b00000001, 0x01, 0xaa] = .ok (.keyload [0xaa]) ∧
  decode .cmd [0b00000010, 0x00] = .ok (.encrypt []) ∧
  decode .cmd [0b00000011, 0x02, 0x55, 0x66] = .ok (.decrypt [0x55, 0x66]) ∧
  decode .gfsel [0b00001011, 0x57] = .ok (.gfmul11 0x57) ∧
  decode .gfsel [0b00000001, 0x57] = .ok (.gfmul1 0x57) ∧
  decode .uop [0b00000010] = .ok .sb ∧
  decode .uop [0b10100001] = .ok (.ark 10) ∧
  decode .uop [0b00011001] = .ok (.kexp 1)

/-- R75, R77, R78, U10: every code, multiplicand and label that names nothing is rejected by name, an issued select of an
unsupported multiplicand takes the fatal error, and an issued label that names nothing is a fault of the model, not a
no-operation. The internal issue is the model's own (log 5), and so are the shape `[n, m]` of a select (log 8) and that a
select issued singly takes the fatal error with a response ERR_FATAL (log 17; the abort: R98, R216, R217). -/
def Obligations.ReservedEncodingsRejected : Prop :=
  (∀ (c0 : Byte) (p : List Byte), p.length ≤ 255 → c0 ∉ [0x01, 0x02, 0x03] →
    decode .cmd (commandBytes c0 p) = .error (.illegalCommand c0)) ∧
  (∀ n m : Byte, n ∉ gfSet → decode .gfsel [n, m] = .error (.unsupportedMultiplicand n) ∧
    ∀ (s : State) (rest : List Issue),
      ∃ t, step { s with seq := .gfsel [n, m] :: rest } = .next t ∧ abortedWith 2 s t) ∧
  (∀ (b : Byte) (operand : List Byte), b.extractLsb' 0 4 ∈ ([0x0, 0xa, 0xb, 0xc, 0xd, 0xe, 0xf] : List (BitVec 4)) →
    decode .uop (b :: operand) = .error (.unknownLabel (b.extractLsb' 0 4)) ∧
    ∀ (s : State) (rest : List Issue),
      step { s with seq := .uop (b :: operand) :: rest } = .fault (.unknownLabel (b.extractLsb' 0 4)))

/-- R70, R80: the step runs the decoded operation: a complete legal command at an idle interface, or an internal operation
that is issued; around it the step takes the bytes off the interface or off the issued list. -/
def Obligations.StepRunsDecoded : Prop :=
  (∀ (s : State) (bytes : List Byte) (rest : List HostAct) (i : Instr), decode .cmd bytes = .ok i →
    step (s.presenting bytes rest) = exec i (s.ready rest)) ∧
  (∀ (s : State) (op : Issue) (rest : List Issue) (i : Instr), decode (issueSpace op) (issueBytes op) = .ok i →
    step { s with seq := op :: rest } = exec i { s with seq := rest })

/-! ## The whole machine -/

/-- R15, R25, R27, R176: every step from a state where FCAUSE agrees with FATAL and a valid RK is some key's schedule gives such
a state. -/
def Obligations.StepKeepsInvariant : Prop := ∀ s t : State, s.Inv → step s = .next t → t.Inv

/-- R32: after reset KVALID, FATAL and FCAUSE are 0 and STATUS is 0x00 (what RK and ST hold is not stated, log 1); the reset
state meets the invariant and has no internal operation issued (log 5). -/
def Obligations.ResetMeetsInvariant : Prop :=
  State.reset.kvalid = false ∧ State.reset.fatal = false ∧ State.reset.fcause = 0 ∧ status State.reset = 0x00 ∧
  State.reset.Inv ∧ State.reset.healthy

/-- R101, R218: from every state without an issued internal operation and without a fatal error, a step under any host action
never faults and never raises a fatal error. -/
def Obligations.CommandsNeverRaiseFatal : Prop := ∀ s : State, s.healthy → soundOutcome (step s)

/-- R218: FATAL stays 0 from reset under every sequence of host actions, of every length. -/
def Obligations.FatalUnreachableFromReset : Prop :=
  ∀ (script : List HostAct) (n : Nat), soundOutcome (core.run n { State.reset with inp := script })

/-- R23, R30, R31: what the host sees never depends on ST, nor on RK while KVALID is 0 (nor on the model's own fields RKn and
`gfOut`): two runs that differ only there look the same to the host, for ever. This is R30's proof obligation that a
register without a value is never observed. -/
def Obligations.ValuelessRegistersUnseen : Prop :=
  ∀ (s : State) (rk rkn : RoundKeys) (st : Block) (gf : Byte) (n : Nat),
    s.seq = [] → (s.kvalid = true → rk = s.rk) →
    hostViewOf (core.run n { s with rk := rk, st := st, rkn := rkn, gfOut := gf }) = hostViewOf (core.run n s)

/-- R21, R28: only an accepted KEYLOAD and a reset write RK, and KEYLOAD writes all of it. -/
def Obligations.OnlyKeyloadWritesRoundKeys : Prop :=
  ∀ s t : State, step s = .next t →
    t.rk = s.rk ∨
    (s.seq = [] ∧ ∃ rest, s.inp = .reset :: rest) ∨
    (s.seq = [] ∧ ∃ bytes rest key, s.inp = .present bytes :: rest ∧
      decode .cmd (s.rx ++ bytes) = .ok (.keyload (bytesOfBlock key)) ∧ s.fatal = false ∧ t.kvalid = true ∧
      keyExpand tables key = .ok t.rk)

/-- R24: KVALID is set only by an accepted KEYLOAD and cleared only by reset. -/
def Obligations.KvalidWrittenOnlyByKeyloadAndReset : Prop :=
  ∀ s t : State, step s = .next t →
    (s.kvalid = true → t.kvalid = true ∨ (s.seq = [] ∧ ∃ rest, s.inp = .reset :: rest)) ∧
    (s.kvalid = false → t.kvalid = true →
      s.seq = [] ∧ ∃ bytes rest key, s.inp = .present bytes :: rest ∧
        decode .cmd (s.rx ++ bytes) = .ok (.keyload (bytesOfBlock key)) ∧ s.fatal = false)

/-- R25, R222: FATAL, once set, stays set with its first cause until reset. -/
def Obligations.FatalIsSticky : Prop :=
  ∀ s t : State, step s = .next t → s.fatal = true →
    (t.fatal = true ∧ t.fcause = s.fcause) ∨ (s.seq = [] ∧ ∃ rest, s.inp = .reset :: rest)

/-! ## The host's framing, outside CORE (log 14) -/

/-- R191: the padded length is `16 * (n / 16 + 1)`, and the padding is the marker and zeros after the message. -/
def Obligations.PaddingLength : Prop :=
  ∀ m : List Byte, (padMessage m).length = 16 * (m.length / 16 + 1) ∧ m ++ [0x80] <+: padMessage m ∧
    ∀ b ∈ (padMessage m).drop (m.length + 1), b = 0x00

/-- R194: unpadding gives back what stands before the first marker, so a padded message without a marker comes back and one with
a marker is truncated there; without a marker the whole sequence is returned. -/
def Obligations.UnpaddingTruncatesAtFirstMarker : Prop :=
  (∀ m : List Byte, (0x80 : Byte) ∉ m → unpadMessage (padMessage m) = m ∧ unpadMessage m = m) ∧
  (∀ m rest : List Byte, (0x80 : Byte) ∉ m → unpadMessage (m ++ 0x80 :: rest) = m)

/-- R192, R193, R198 (P1): with a key loaded, a message without the marker byte, padded, encrypted block by block, decrypted
block by block and unpadded, is the message. -/
def Obligations.MessageRoundTrip : Prop :=
  ∀ (s : State) (m : List Byte), s.fatal = false → s.kvalid = true → s.seq = [] → s.rx = [] → (0x80 : Byte) ∉ m →
    ∃ t q, core.run (m.length / 16 + 1) { s with inp := encryptScript m } = .next t ∧ t.out = s.out ++ q ∧
      (resultBytes q).length = (padMessage m).length ∧
      ∃ u q', core.run (m.length / 16 + 1) { t with inp := decryptScript (resultBytes q) } = .next u ∧
        u.out = t.out ++ q' ∧ resultBytes q' = padMessage m ∧ unpadMessage (resultBytes q') = m
end

