-- ==== Sys2Proof/Laws/Operands.lean ====
section
/-! SUPPORT. The laws of blocks, cells and byte strings. -/

namespace Sys2Proof.Machine

/-- Two words with the same four bytes are equal. -/
theorem word_ext {a b : Word} (h : ∀ r, byteOf a r = byteOf b r) : a = b := by
  cases a; cases b
  have h0 := h 0
  have h1 := h 1
  have h2 := h 2
  have h3 := h 3
  simp only [byteOf] at h0 h1 h2 h3
  subst h0; subst h1; subst h2; subst h3; rfl

/-- Two blocks with the same sixteen cells are equal. -/
theorem block_ext {a b : Block} (h : ∀ r c, cell a r c = cell b r c) : a = b := by
  have h0 := word_ext fun r => h r 0
  have h1 := word_ext fun r => h r 1
  have h2 := word_ext fun r => h r 2
  have h3 := word_ext fun r => h r 3
  cases a; cases b
  simp only [columnOf] at h0 h1 h2 h3
  subst h0; subst h1; subst h2; subst h3; rfl

@[simp] theorem byteOf_mkWord (f : Fin 4 → Byte) (r : Fin 4) : byteOf (mkWord f) r = f r := by
  fin_cases r <;> rfl

@[simp] theorem cell_mkBlock (f : Fin 4 → Fin 4 → Byte) (r c : Fin 4) : cell (mkBlock f) r c = f r c := by
  fin_cases c <;> fin_cases r <;> rfl

@[simp] theorem byteOf_xor (a b : Word) (r : Fin 4) : byteOf (a.xor b) r = byteOf a r ^^^ byteOf b r := by
  fin_cases r <;> rfl

@[simp] theorem cell_xor (a b : Block) (r c : Fin 4) : cell (a.xor b) r c = cell a r c ^^^ cell b r c := by
  fin_cases c <;> fin_cases r <;> rfl

/-- A word made of its own bytes is itself. -/
@[simp] theorem mkWord_byteOf (w : Word) : mkWord (byteOf w) = w := rfl

/-- A loop none of whose bodies raises gives the word of the bytes. -/
@[simp] theorem mkWordM_ok {ε : Type} (f : Fin 4 → Byte) :
    mkWordM (ε := ε) (fun r => .ok (f r)) = .ok (mkWord f) := rfl

/-- A loop none of whose bodies raises gives the block of the bytes. -/
@[simp] theorem mkBlockM_ok {ε : Type} (f : Fin 4 → Fin 4 → Byte) :
    mkBlockM (ε := ε) (fun r c => .ok (f r c)) = .ok (mkBlock f) := rfl

theorem xor_self_cancel (a k : Block) : (a.xor k).xor k = a := by
  apply block_ext
  intro r c
  simp

@[simp] theorem length_bytesOfBlock (s : Block) : (bytesOfBlock s).length = 16 := rfl

/-- A block's bytes read back are the block. -/
@[simp] theorem blockOfBytes_bytesOfBlock (s : Block) : blockOfBytes (bytesOfBlock s) = some s := rfl

/-- A byte string is a block exactly when it has 16 bytes. -/
theorem blockOfBytes_eq_none (p : List Byte) : blockOfBytes p = none ↔ p.length ≠ 16 := by
  unfold blockOfBytes
  split <;> simp_all

/-- The bytes of the block a byte string is are the byte string. -/
theorem bytesOfBlock_of_some {p : List Byte} {s : Block} (h : blockOfBytes p = some s) : bytesOfBlock s = p := by
  unfold blockOfBytes at h
  split at h
  · next hp =>
    obtain rfl := Option.some.inj h
    match p, hp with
    | [_, _, _, _, _, _, _, _, _, _, _, _, _, _, _, _], _ => rfl
  · cases h

/-- A byte string of 16 bytes is some block. -/
theorem blockOfBytes_of_length {p : List Byte} (h : p.length = 16) : ∃ s, blockOfBytes p = some s :=
  ⟨_, if_pos h⟩

end Sys2Proof.Machine
end

