-- ==== Sys2Proof/Laws/Decode.lean ====
section
/-! SUPPORT. What the decoders can answer. -/

namespace Sys2Proof

open Machine (blockOfBytes)

theorem noOperand_ok {hi : BitVec 4} {rest : List Byte} {i j : Instr} (h : noOperand hi rest i = .ok j) :
    j = i ∧ hi = 0 ∧ rest = [] := by
  unfold noOperand at h
  split at h
  · next hc => cases h; exact ⟨rfl, hc⟩
  · cases h

theorem roundOperand_ok {hi : BitVec 4} {rest : List Byte} {f : BitVec 4 → Instr} {j : Instr}
    (h : roundOperand hi rest f = .ok j) : j = f hi ∧ rest = [] := by
  unfold roundOperand at h
  split at h
  · next hc => cases h; exact ⟨rfl, hc⟩
  · cases h

theorem keyOperand_ok {hi : BitVec 4} {rest : List Byte} {f : Block → Instr} {j : Instr}
    (h : keyOperand hi rest f = .ok j) : ∃ k, j = f k ∧ hi = 0 ∧ blockOfBytes rest = some k := by
  unfold keyOperand at h
  split at h
  · next k hk =>
    split at h
    · next hc => cases h; exact ⟨k, rfl, hc, hk⟩
    · cases h
  · cases h

/-- The decoder of a space answers an operation of that space (R70). -/
theorem decode_space {sp : Space} {bs : List Byte} {i : Instr} (h : decode sp bs = .ok i) : i.space = sp := by
  cases sp with
  | cmd =>
    simp only [decode] at h
    unfold decodeCmd decodeCode at h
    split at h
    · repeat' split at h
      all_goals (first | (cases h; rfl) | cases h)
    · cases h
  | gfsel =>
    simp only [decode] at h
    unfold decodeGfsel at h
    split at h
    · repeat' split at h
      all_goals (first | (cases h; rfl) | cases h)
    · cases h
  | uop =>
    simp only [decode] at h
    cases bs with
    | nil => cases h
    | cons b rest =>
      simp only [decodeUop] at h
      split at h
      · obtain ⟨rfl, -⟩ := roundOperand_ok h; rfl
      iterate 6
        split at h
        · obtain ⟨rfl, -⟩ := noOperand_ok h; rfl
      split at h
      · obtain ⟨k, rfl, -⟩ := keyOperand_ok h; rfl
      split at h
      · obtain ⟨rfl, -⟩ := roundOperand_ok h; rfl
      · cases h

/-- A code byte names a command or is illegal, whatever the payload (R75). -/
theorem decodeCode_cases (c0 : Byte) (payload : List Byte) :
    (∃ i, decodeCode c0 payload = .ok i ∧ c0 ∈ [0x01, 0x02, 0x03]) ∨
      (decodeCode c0 payload = .error (.illegalCommand c0) ∧ c0 ∉ [0x01, 0x02, 0x03]) := by
  unfold decodeCode
  by_cases h1 : c0 = 0x01
  · exact .inl ⟨_, if_pos h1, by simp [h1]⟩
  · by_cases h2 : c0 = 0x02
    · exact .inl ⟨.encrypt payload, by rw [if_neg h1, if_pos h2], by simp [h2]⟩
    · by_cases h3 : c0 = 0x03
      · exact .inl ⟨.decrypt payload, by rw [if_neg h1, if_neg h2, if_pos h3], by simp [h3]⟩
      · exact .inr ⟨by rw [if_neg h1, if_neg h2, if_neg h3], by
          simp only [List.mem_cons, List.not_mem_nil, or_false, not_or]
          exact ⟨h1, h2, h3⟩⟩

/-- A command of exactly `2 + L` bytes is read by its code (R71). -/
theorem decodeCmd_whole {c0 len : Byte} {payload : List Byte} (h : payload.length = len.toNat) :
    decodeCmd (c0 :: len :: payload) = decodeCode c0 payload := by
  simp [decodeCmd, h]

end Sys2Proof
end

