-- ==== Sys2Proof/Laws/State.lean ====
section
/-! SUPPORT. What each named update of the state does to each field: one lemma a field, true by definition, so that no later
proof unfolds an update. -/

namespace Sys2Proof.Machine

@[simp] theorem respond_rk (q : Response) (s : State) :
    (respond q s).rk = s.rk := rfl
@[simp] theorem respond_st (q : Response) (s : State) :
    (respond q s).st = s.st := rfl
@[simp] theorem respond_kvalid (q : Response) (s : State) :
    (respond q s).kvalid = s.kvalid := rfl
@[simp] theorem respond_fatal (q : Response) (s : State) :
    (respond q s).fatal = s.fatal := rfl
@[simp] theorem respond_fcause (q : Response) (s : State) :
    (respond q s).fcause = s.fcause := rfl
@[simp] theorem respond_rkn (q : Response) (s : State) :
    (respond q s).rkn = s.rkn := rfl
@[simp] theorem respond_gfOut (q : Response) (s : State) :
    (respond q s).gfOut = s.gfOut := rfl
@[simp] theorem respond_seq (q : Response) (s : State) :
    (respond q s).seq = s.seq := rfl
@[simp] theorem respond_inp (q : Response) (s : State) :
    (respond q s).inp = s.inp := rfl
@[simp] theorem respond_rx (q : Response) (s : State) :
    (respond q s).rx = s.rx := rfl
@[simp] theorem respond_out (q : Response) (s : State) :
    (respond q s).out = s.out ++ [q] := rfl
@[simp] theorem respond_draws (q : Response) (s : State) :
    (respond q s).draws = s.draws := rfl

@[simp] theorem refuse_rk (code : RespCode) (s : State) :
    (refuse code s).rk = s.rk := rfl
@[simp] theorem refuse_st (code : RespCode) (s : State) :
    (refuse code s).st = s.st := rfl
@[simp] theorem refuse_kvalid (code : RespCode) (s : State) :
    (refuse code s).kvalid = s.kvalid := rfl
@[simp] theorem refuse_fatal (code : RespCode) (s : State) :
    (refuse code s).fatal = s.fatal := rfl
@[simp] theorem refuse_fcause (code : RespCode) (s : State) :
    (refuse code s).fcause = s.fcause := rfl
@[simp] theorem refuse_rkn (code : RespCode) (s : State) :
    (refuse code s).rkn = s.rkn := rfl
@[simp] theorem refuse_gfOut (code : RespCode) (s : State) :
    (refuse code s).gfOut = s.gfOut := rfl
@[simp] theorem refuse_seq (code : RespCode) (s : State) :
    (refuse code s).seq = s.seq := rfl
@[simp] theorem refuse_inp (code : RespCode) (s : State) :
    (refuse code s).inp = s.inp := rfl
@[simp] theorem refuse_rx (code : RespCode) (s : State) :
    (refuse code s).rx = s.rx := rfl
@[simp] theorem refuse_out (code : RespCode) (s : State) :
    (refuse code s).out = s.out ++ [⟨code, none⟩] := rfl
@[simp] theorem refuse_draws (code : RespCode) (s : State) :
    (refuse code s).draws = s.draws := rfl

@[simp] theorem dropSt_rk (s : State) :
    (dropSt s).rk = s.rk := rfl
@[simp] theorem dropSt_st (s : State) :
    (dropSt s).st = Config.freeBlock s.draws := rfl
@[simp] theorem dropSt_kvalid (s : State) :
    (dropSt s).kvalid = s.kvalid := rfl
@[simp] theorem dropSt_fatal (s : State) :
    (dropSt s).fatal = s.fatal := rfl
@[simp] theorem dropSt_fcause (s : State) :
    (dropSt s).fcause = s.fcause := rfl
@[simp] theorem dropSt_rkn (s : State) :
    (dropSt s).rkn = s.rkn := rfl
@[simp] theorem dropSt_gfOut (s : State) :
    (dropSt s).gfOut = s.gfOut := rfl
@[simp] theorem dropSt_seq (s : State) :
    (dropSt s).seq = s.seq := rfl
@[simp] theorem dropSt_inp (s : State) :
    (dropSt s).inp = s.inp := rfl
@[simp] theorem dropSt_rx (s : State) :
    (dropSt s).rx = s.rx := rfl
@[simp] theorem dropSt_out (s : State) :
    (dropSt s).out = s.out := rfl
@[simp] theorem dropSt_draws (s : State) :
    (dropSt s).draws = s.draws + 1 := rfl

@[simp] theorem takeFatal_rk (cause : Cause) (s : State) :
    (takeFatal cause s).rk = s.rk := rfl
@[simp] theorem takeFatal_st (cause : Cause) (s : State) :
    (takeFatal cause s).st = Config.freeBlock s.draws := rfl
@[simp] theorem takeFatal_kvalid (cause : Cause) (s : State) :
    (takeFatal cause s).kvalid = s.kvalid := rfl
@[simp] theorem takeFatal_fatal (cause : Cause) (s : State) :
    (takeFatal cause s).fatal = true := rfl
@[simp] theorem takeFatal_fcause (cause : Cause) (s : State) :
    (takeFatal cause s).fcause = causeAfter cause s := rfl
@[simp] theorem takeFatal_rkn (cause : Cause) (s : State) :
    (takeFatal cause s).rkn = s.rkn := rfl
@[simp] theorem takeFatal_gfOut (cause : Cause) (s : State) :
    (takeFatal cause s).gfOut = s.gfOut := rfl
@[simp] theorem takeFatal_seq (cause : Cause) (s : State) :
    (takeFatal cause s).seq = [] := rfl
@[simp] theorem takeFatal_inp (cause : Cause) (s : State) :
    (takeFatal cause s).inp = s.inp := rfl
@[simp] theorem takeFatal_rx (cause : Cause) (s : State) :
    (takeFatal cause s).rx = s.rx := rfl
@[simp] theorem takeFatal_out (cause : Cause) (s : State) :
    (takeFatal cause s).out = s.out ++ [⟨.errFatal, none⟩] := rfl
@[simp] theorem takeFatal_draws (cause : Cause) (s : State) :
    (takeFatal cause s).draws = s.draws + 1 := rfl

@[simp] theorem applyReset_rk (s : State) :
    (applyReset s).rk = freeKeys s.draws := rfl
@[simp] theorem applyReset_st (s : State) :
    (applyReset s).st = Config.freeBlock (s.draws + 22) := rfl
@[simp] theorem applyReset_kvalid (s : State) :
    (applyReset s).kvalid = false := rfl
@[simp] theorem applyReset_fatal (s : State) :
    (applyReset s).fatal = false := rfl
@[simp] theorem applyReset_fcause (s : State) :
    (applyReset s).fcause = 0 := rfl
@[simp] theorem applyReset_rkn (s : State) :
    (applyReset s).rkn = freeKeys (s.draws + 11) := rfl
@[simp] theorem applyReset_gfOut (s : State) :
    (applyReset s).gfOut = 0 := rfl
@[simp] theorem applyReset_seq (s : State) :
    (applyReset s).seq = [] := rfl
@[simp] theorem applyReset_inp (s : State) :
    (applyReset s).inp = s.inp := rfl
@[simp] theorem applyReset_rx (s : State) :
    (applyReset s).rx = [] := rfl
@[simp] theorem applyReset_out (s : State) :
    (applyReset s).out = s.out := rfl
@[simp] theorem applyReset_draws (s : State) :
    (applyReset s).draws = s.draws + 23 := rfl

@[simp] theorem takeCommand_rk (s : State) :
    (takeCommand s).rk = s.rk := rfl
@[simp] theorem takeCommand_st (s : State) :
    (takeCommand s).st = s.st := rfl
@[simp] theorem takeCommand_kvalid (s : State) :
    (takeCommand s).kvalid = s.kvalid := rfl
@[simp] theorem takeCommand_fatal (s : State) :
    (takeCommand s).fatal = s.fatal := rfl
@[simp] theorem takeCommand_fcause (s : State) :
    (takeCommand s).fcause = s.fcause := rfl
@[simp] theorem takeCommand_rkn (s : State) :
    (takeCommand s).rkn = s.rkn := rfl
@[simp] theorem takeCommand_gfOut (s : State) :
    (takeCommand s).gfOut = s.gfOut := rfl
@[simp] theorem takeCommand_seq (s : State) :
    (takeCommand s).seq = s.seq := rfl
@[simp] theorem takeCommand_inp (s : State) :
    (takeCommand s).inp = s.inp := rfl
@[simp] theorem takeCommand_rx (s : State) :
    (takeCommand s).rx = [] := rfl
@[simp] theorem takeCommand_out (s : State) :
    (takeCommand s).out = s.out := rfl
@[simp] theorem takeCommand_draws (s : State) :
    (takeCommand s).draws = s.draws := rfl

@[simp] theorem takeBytes_rk (bytes : List Byte) (rest : List HostAct) (s : State) :
    (takeBytes bytes rest s).rk = s.rk := rfl
@[simp] theorem takeBytes_st (bytes : List Byte) (rest : List HostAct) (s : State) :
    (takeBytes bytes rest s).st = s.st := rfl
@[simp] theorem takeBytes_kvalid (bytes : List Byte) (rest : List HostAct) (s : State) :
    (takeBytes bytes rest s).kvalid = s.kvalid := rfl
@[simp] theorem takeBytes_fatal (bytes : List Byte) (rest : List HostAct) (s : State) :
    (takeBytes bytes rest s).fatal = s.fatal := rfl
@[simp] theorem takeBytes_fcause (bytes : List Byte) (rest : List HostAct) (s : State) :
    (takeBytes bytes rest s).fcause = s.fcause := rfl
@[simp] theorem takeBytes_rkn (bytes : List Byte) (rest : List HostAct) (s : State) :
    (takeBytes bytes rest s).rkn = s.rkn := rfl
@[simp] theorem takeBytes_gfOut (bytes : List Byte) (rest : List HostAct) (s : State) :
    (takeBytes bytes rest s).gfOut = s.gfOut := rfl
@[simp] theorem takeBytes_seq (bytes : List Byte) (rest : List HostAct) (s : State) :
    (takeBytes bytes rest s).seq = s.seq := rfl
@[simp] theorem takeBytes_inp (bytes : List Byte) (rest : List HostAct) (s : State) :
    (takeBytes bytes rest s).inp = rest := rfl
@[simp] theorem takeBytes_rx (bytes : List Byte) (rest : List HostAct) (s : State) :
    (takeBytes bytes rest s).rx = s.rx ++ bytes := rfl
@[simp] theorem takeBytes_out (bytes : List Byte) (rest : List HostAct) (s : State) :
    (takeBytes bytes rest s).out = s.out := rfl
@[simp] theorem takeBytes_draws (bytes : List Byte) (rest : List HostAct) (s : State) :
    (takeBytes bytes rest s).draws = s.draws := rfl

@[simp] theorem refuseIllegal_rk (s : State) :
    (refuseIllegal s).rk = s.rk := rfl
@[simp] theorem refuseIllegal_st (s : State) :
    (refuseIllegal s).st = s.st := rfl
@[simp] theorem refuseIllegal_kvalid (s : State) :
    (refuseIllegal s).kvalid = s.kvalid := rfl
@[simp] theorem refuseIllegal_fatal (s : State) :
    (refuseIllegal s).fatal = s.fatal := rfl
@[simp] theorem refuseIllegal_fcause (s : State) :
    (refuseIllegal s).fcause = s.fcause := rfl
@[simp] theorem refuseIllegal_rkn (s : State) :
    (refuseIllegal s).rkn = s.rkn := rfl
@[simp] theorem refuseIllegal_gfOut (s : State) :
    (refuseIllegal s).gfOut = s.gfOut := rfl
@[simp] theorem refuseIllegal_seq (s : State) :
    (refuseIllegal s).seq = s.seq := rfl
@[simp] theorem refuseIllegal_inp (s : State) :
    (refuseIllegal s).inp = s.inp := rfl
@[simp] theorem refuseIllegal_rx (s : State) :
    (refuseIllegal s).rx = s.rx := rfl
@[simp] theorem refuseIllegal_out (s : State) :
    (refuseIllegal s).out = s.out ++ [⟨if s.fatal then .errFatal else .errCmd, none⟩] := rfl
@[simp] theorem refuseIllegal_draws (s : State) :
    (refuseIllegal s).draws = s.draws := rfl

/-- STATUS does not see the response list. -/
@[simp] theorem status_respond (q : Response) (s : State) : status (respond q s) = status s := rfl

@[simp] theorem status_refuse (code : RespCode) (s : State) : status (refuse code s) = status s := rfl

@[simp] theorem status_dropSt (s : State) : status (dropSt s) = status s := rfl

end Sys2Proof.Machine
end

