-- ==== Sys2Proof/Laws/Ops.lean ====
section
/-! SUPPORT. What the shared operations can do, said once each: table and register reads, the fatal error, the checks of a
command, the updates of single operations, the meanings, one step. -/

namespace Sys2Proof.Machine

/-! ### Reads -/

/-- The entry of a byte-indexed table, 0 where a read raises. -/
def entryOf (t : Rows) (b : Byte) : Byte := (readTable t b.toNat).toOption.getD 0

/-- The byte a multiplier operation returns, 0 where it raises. -/
def gfValue (n m : Byte) : Byte := (gfmul tables n m).toOption.getD 0

/-- A byte index is always inside SBOX (R61). -/
theorem readTable_sbox (b : Byte) : readTable tables.sbox b.toNat = .ok (entryOf tables.sbox b) := by
  revert b; decide +kernel

/-- A byte index is always inside INV_SBOX (R61). -/
theorem readTable_invSbox (b : Byte) : readTable tables.invSbox b.toNat = .ok (entryOf tables.invSbox b) := by
  revert b; decide +kernel

/-- The entry of a diffusion matrix, 0 outside it. -/
def matrixEntry (matrix : Rows) (r k : Fin 4) : Byte := (readEntry matrix r k).toOption.getD 0

/-- The multiplicands of GFSET (R7, C2). -/
def supported : List Byte := [0x01, 0x02, 0x03, 0x09, 0x0b, 0x0d, 0x0e]

/-- Every supported multiplicand returns a byte for every data byte (R90). -/
theorem gfmul_supported {n : Byte} (h : n ∈ supported) (m : Byte) : gfmul tables n m = .ok (gfValue n m) := by
  have all : ∀ n ∈ supported, ∀ m : Byte, gfmul tables n m = .ok (gfValue n m) := by decide +kernel
  exact all n h m

theorem readEntry_mix (r k : Fin 4) :
    readEntry tables.mix r k = .ok (matrixEntry tables.mix r k) ∧ matrixEntry tables.mix r k ∈ supported := by
  revert r k; decide +kernel

theorem readEntry_invMix (r k : Fin 4) :
    readEntry tables.invMix r k = .ok (matrixEntry tables.invMix r k) ∧
      matrixEntry tables.invMix r k ∈ supported := by
  revert r k; decide +kernel

/-- The entries of MIX are supported multiplicands (R101). -/
theorem gfmul_mix (r k : Fin 4) (m : Byte) :
    ∃ n, readEntry tables.mix r k = .ok n ∧ gfmul tables n m = .ok (gfValue n m) :=
  ⟨_, (readEntry_mix r k).1, gfmul_supported (readEntry_mix r k).2 m⟩

/-- The entries of INV_MIX are supported multiplicands (R101). -/
theorem gfmul_invMix (r k : Fin 4) (m : Byte) :
    ∃ n, readEntry tables.invMix r k = .ok n ∧ gfmul tables n m = .ok (gfValue n m) :=
  ⟨_, (readEntry_invMix r k).1, gfmul_supported (readEntry_invMix r k).2 m⟩

/-- The ten round constants the key schedule reads are there, whatever RCON_TAIL is (R59). -/
theorem readRcon_ok (r : Nat) (h1 : 1 ≤ r) (h2 : r ≤ 10) : ∃ c, readRcon tables.rcon (r - 1) = .ok c := by
  interval_cases r <;> exact ⟨_, rfl⟩

theorem readRk_of_lt {rk : RoundKeys} {j : Nat} (h : j < 11) : readRk rk j = .ok rk[j] := dif_pos h

theorem readRk_of_ge {rk : RoundKeys} {j : Nat} (h : 11 ≤ j) : readRk rk j = .error .roundIndex :=
  dif_neg (Nat.not_lt.mpr h)

theorem writeRk_of_lt {rk : RoundKeys} {j : Nat} {v : Block} (h : j < 11) : writeRk rk j v = .ok (rk.set j v) :=
  dif_pos h

theorem writeRk_of_ge {rk : RoundKeys} {j : Nat} {v : Block} (h : 11 ≤ j) : writeRk rk j v = .error .roundIndex :=
  dif_neg (Nat.not_lt.mpr h)

/-! ### Transforms under the hardware's tables never raise -/

theorem subBytes_eq (s : Block) :
    subBytes tables s = .ok (mkBlock fun r c => entryOf tables.sbox (cell s r c)) := by
  simp only [subBytes, readTable_sbox, mkBlockM_ok]

theorem invSubBytes_eq (s : Block) :
    invSubBytes tables s = .ok (mkBlock fun r c => entryOf tables.invSbox (cell s r c)) := by
  simp only [invSubBytes, readTable_invSbox, mkBlockM_ok]

/-- A diffusion row never raises when every product it needs is there. -/
theorem mixRow_total {matrix : Rows} {a : Word} {r : Fin 4}
    (h : ∀ (k : Fin 4) (m : Byte), ∃ n, readEntry matrix r k = .ok n ∧ gfmul tables n m = .ok (gfValue n m)) :
    ∃ b, mixRow tables matrix a r = .ok b := by
  obtain ⟨n0, e0, g0⟩ := h 0 a.b0
  obtain ⟨n1, e1, g1⟩ := h 1 a.b1
  obtain ⟨n2, e2, g2⟩ := h 2 a.b2
  obtain ⟨n3, e3, g3⟩ := h 3 a.b3
  refine ⟨gfValue n0 a.b0 ^^^ gfValue n1 a.b1 ^^^ gfValue n2 a.b2 ^^^ gfValue n3 a.b3, ?_⟩
  change readEntry matrix r 0 = _ at e0
  change readEntry matrix r 1 = _ at e1
  change readEntry matrix r 2 = _ at e2
  change readEntry matrix r 3 = _ at e3
  simp only [mixRow, e0, e1, e2, e3, g0, g1, g2, g3, bind, Except.bind, pure, Except.pure]

/-- A loop whose bodies never raise gives a block. -/
theorem mkBlockM_total {f : Fin 4 → Fin 4 → Raise Byte} (h : ∀ r c, ∃ b, f r c = .ok b) :
    ∃ s, mkBlockM f = .ok s := by
  choose g hg using h
  obtain rfl : f = fun r c => .ok (g r c) := funext fun r => funext fun c => hg r c
  exact ⟨mkBlock g, mkBlockM_ok g⟩

theorem mixColumns_total (s : Block) : ∃ t, mixColumns tables s = .ok t :=
  mkBlockM_total fun r _ => mixRow_total fun k m => gfmul_mix r k m

theorem invMixColumns_total (s : Block) : ∃ t, invMixColumns tables s = .ok t :=
  mkBlockM_total fun r _ => mixRow_total fun k m => gfmul_invMix r k m

theorem addRoundKey_of_lt {rk : RoundKeys} {j : Nat} (h : j < 11) (s : Block) :
    addRoundKey rk j s = .ok (s.xor rk[j]) := by
  simp only [addRoundKey, readRk_of_lt h, bind, Except.bind, pure, Except.pure]

theorem addRoundKey_of_ge {rk : RoundKeys} {j : Nat} (h : 11 ≤ j) (s : Block) :
    addRoundKey rk j s = .error .roundIndex := by
  simp only [addRoundKey, readRk_of_ge h, bind, Except.bind]

theorem subWord_eq (w : Word) : subWord tables w = .ok (mkWord fun r => entryOf tables.sbox (byteOf w r)) := by
  simp only [subWord, readTable_sbox, mkWordM_ok]

theorem expandRound_total {r : Nat} (h1 : 1 ≤ r) (h2 : r ≤ 10) (p : Block) :
    ∃ k, expandRound tables r p = .ok k := by
  obtain ⟨c, hc⟩ := readRcon_ok r h1 h2
  simp only [expandRound, if_pos (And.intro h1 h2), subWord_eq, addRcon, hc, bind, Except.bind, pure, Except.pure]
  exact ⟨_, rfl⟩

theorem expandRound_of_not {r : Nat} (h : ¬ (1 ≤ r ∧ r ≤ 10)) (T : Tables) (p : Block) :
    expandRound T r p = .error .roundIndex := if_neg h

theorem expandInto_total {r : Nat} (h1 : 1 ≤ r) (h2 : r ≤ 10) (rkn : RoundKeys) :
    ∃ k, expandRound tables r (rkn[r - 1]'(by omega)) = .ok k ∧
      expandInto tables r rkn = .ok (rkn.set r k (by omega)) := by
  obtain ⟨k, hk⟩ := expandRound_total h1 h2 (rkn[r - 1]'(by omega))
  refine ⟨k, hk, ?_⟩
  simp only [expandInto, readRk_of_lt (show r - 1 < 11 by omega), hk, writeRk_of_lt (show r < 11 by omega), bind,
    Except.bind]

theorem expandInto_of_not {r : Nat} (h : ¬ (1 ≤ r ∧ r ≤ 10)) (T : Tables) (rkn : RoundKeys) :
    expandInto T r rkn = .error .roundIndex := by
  by_cases hr : r - 1 < 11
  · simp only [expandInto, readRk_of_lt hr, expandRound_of_not h, bind, Except.bind]
  · simp only [expandInto, readRk_of_ge (Nat.not_lt.mp hr), bind, Except.bind]

/-- A fold whose body never raises on the list's members gives a result. -/
theorem foldlM_total {α β : Type} {f : α → β → Raise α} {l : List β} (h : ∀ b ∈ l, ∀ a, ∃ a', f a b = .ok a')
    (a : α) : ∃ a', l.foldlM f a = .ok a' := by
  induction l generalizing a with
  | nil => exact ⟨a, rfl⟩
  | cons b l ih =>
    obtain ⟨a', ha'⟩ := h b (by simp) a
    obtain ⟨a'', ha''⟩ := ih (fun b hb => h b (by simp [hb])) a'
    exact ⟨a'', by rw [List.foldlM_cons, ha']; exact ha''⟩

theorem mem_roundsTo {r n : Nat} (h : r ∈ roundsTo n) : 1 ≤ r ∧ r ≤ n := by
  simp only [roundsTo, List.mem_range'_1] at h
  omega

/-- Every 16-byte key has a schedule (R110). -/
theorem keyExpand_total (key : Block) : ∃ rk, keyExpand tables key = .ok rk := by
  refine foldlM_total (fun r hr rkn => ?_) _
  obtain ⟨h1, h2⟩ := mem_roundsTo hr
  obtain ⟨k, -, h⟩ := expandInto_total h1 (by simpa [Config.rounds] using h2) rkn
  exact ⟨_, h⟩

theorem encRound_total {r : Nat} (h : r < 11) (rk : RoundKeys) (s : Block) :
    ∃ t, encRound tables rk s r = .ok t := by
  obtain ⟨m, hm⟩ := mixColumns_total (shiftRows (mkBlock fun r c => entryOf tables.sbox (cell s r c)))
  simp only [encRound, subBytes_eq, bind, Except.bind, hm, addRoundKey_of_lt h]
  exact ⟨_, rfl⟩

theorem decRound_total {r : Nat} (h : r < 11) (rk : RoundKeys) (s : Block) :
    ∃ t, decRound tables rk s r = .ok t := by
  obtain ⟨m, hm⟩ := invMixColumns_total (s.xor rk[r])
  simp only [decRound, addRoundKey_of_lt h, bind, Except.bind, hm, invSubBytes_eq]
  exact ⟨_, rfl⟩

/-- ENC_BLOCK cannot fail (R134, R136). -/
theorem encBlock_total (rk : RoundKeys) (b : Block) : ∃ d, encBlock tables rk b = .ok d := by
  obtain ⟨s, hs⟩ := foldlM_total (f := encRound tables rk) (l := roundsTo (Config.rounds - 1))
    (fun r hr a => encRound_total (by have := mem_roundsTo hr; simp only [Config.rounds] at this; omega) rk a)
    (b.xor rk[0])
  simp only [encBlock, addRoundKey_of_lt (show 0 < 11 by omega), bind, Except.bind, hs, subBytes_eq,
    addRoundKey_of_lt (show Config.rounds < 11 by decide)]
  exact ⟨_, rfl⟩

/-- DEC_BLOCK cannot fail (R153, R155). -/
theorem decBlock_total (rk : RoundKeys) (b : Block) : ∃ d, decBlock tables rk b = .ok d := by
  obtain ⟨s, hs⟩ := foldlM_total (f := decRound tables rk) (l := (roundsTo (Config.rounds - 1)).reverse)
    (fun r hr a => decRound_total
      (by have := mem_roundsTo (List.mem_reverse.mp hr); simp only [Config.rounds] at this; omega) rk a)
    (mkBlock fun r c => entryOf tables.invSbox (cell (invShiftRows (b.xor rk[Config.rounds])) r c))
  simp only [decBlock, addRoundKey_of_lt (show Config.rounds < 11 by decide), bind, Except.bind, invSubBytes_eq, hs,
    addRoundKey_of_lt (show 0 < 11 by omega)]
  exact ⟨_, rfl⟩

/-! ### The checks of a command -/

/-- What the checks of R174 can answer: a refusal code, or the payload as a block with FATAL 0 and, where it is needed,
KVALID 1. -/
theorem acceptCommand_cases (lengthError : RespCode) (needsKey : Bool) (payload : List Byte) (s : State) :
    (∃ code, acceptCommand lengthError needsKey payload s = .error code) ∨
    (∃ b, acceptCommand lengthError needsKey payload s = .ok b ∧ blockOfBytes payload = some b ∧ s.fatal = false ∧
      (needsKey = true → s.kvalid = true)) := by
  unfold acceptCommand
  split
  · exact .inl ⟨_, rfl⟩
  · next hf =>
    split
    · exact .inl ⟨_, rfl⟩
    · next b hb =>
      split
      · exact .inl ⟨_, rfl⟩
      · next hk => exact .inr ⟨b, rfl, hb, by simpa using hf, by simpa using hk⟩

/-! ### The meanings -/

/-- What KEYLOAD can do under the hardware's tables: refuse, or install the whole schedule (R171). -/
theorem keyload_cases (payload : List Byte) (s : State) :
    (∃ code, keyloadWith tables payload s = refuse code s) ∨
    (∃ key rk, blockOfBytes payload = some key ∧ keyExpand tables key = .ok rk ∧ s.fatal = false ∧
      keyloadWith tables payload s = respond ⟨.ok, none⟩ { s with rk := rk, kvalid := true }) := by
  rcases acceptCommand_cases .errKeylen false payload s with ⟨code, h⟩ | ⟨key, h, hp, hf, -⟩
  · exact .inl ⟨code, by simp only [keyloadWith, h]⟩
  · obtain ⟨rk, hrk⟩ := keyExpand_total key
    exact .inr ⟨key, rk, hp, hrk, hf, by simp only [keyloadWith, h, hrk]⟩

/-- What a block command over a transform that does not raise can do: refuse, or answer the result and leave ST without a value
(R172, R173). -/
theorem blockCommand_cases {f : RoundKeys → Block → Raise Block} (hf : ∀ rk b, ∃ d, f rk b = .ok d)
    (payload : List Byte) (s : State) :
    (∃ code, blockCommandWith f payload s = refuse code s) ∨
    (∃ b d, blockOfBytes payload = some b ∧ f s.rk b = .ok d ∧ s.fatal = false ∧ s.kvalid = true ∧
      blockCommandWith f payload s = respond ⟨.ok, some d⟩ (dropSt { s with st := d })) := by
  rcases acceptCommand_cases .errBlklen true payload s with ⟨code, h⟩ | ⟨b, h, hp, hs, hk⟩
  · exact .inl ⟨code, by simp only [blockCommandWith, h]⟩
  · obtain ⟨d, hd⟩ := hf s.rk b
    exact .inr ⟨b, d, hp, hd, hs, hk rfl, by simp only [blockCommandWith, h, hd]⟩

/-- What a single step of ST can do: replace ST, or take the fatal error. -/
theorem updateSt_cases (f : Block → Raise Block) (s : State) :
    (∃ b, f s.st = .ok b ∧ updateSt f s = { s with st := b }) ∨
    (∃ cause, f s.st = .error cause ∧ updateSt f s = takeFatal cause s) := by
  unfold updateSt
  split
  · next b h => exact .inl ⟨b, h, rfl⟩
  · next c h => exact .inr ⟨c, h, rfl⟩

/-- What a single step of RKn can do: replace RKn, or take the fatal error. -/
theorem updateRkn_cases (f : RoundKeys → Raise RoundKeys) (s : State) :
    (∃ rkn, f s.rkn = .ok rkn ∧ updateRkn f s = { s with rkn := rkn }) ∨
    (∃ cause, f s.rkn = .error cause ∧ updateRkn f s = takeFatal cause s) := by
  unfold updateRkn
  split
  · next b h => exact .inl ⟨b, h, rfl⟩
  · next c h => exact .inr ⟨c, h, rfl⟩

/-- What a single multiplier operation can do: leave its byte, or take the fatal error. -/
theorem updateGf_cases (r : Raise Byte) (s : State) :
    (∃ b, r = .ok b ∧ updateGf r s = { s with gfOut := b }) ∨
    (∃ cause, r = .error cause ∧ updateGf r s = takeFatal cause s) := by
  unfold updateGf
  split
  · next b => exact .inl ⟨b, rfl, rfl⟩
  · next c => exact .inr ⟨c, rfl, rfl⟩

/-- Everything an operation can do to the state. -/
inductive ExecEffect (i : Instr) (s : State) : State → Prop
  /-- A command is refused: a response and nothing else. -/
  | refused (code : RespCode) (h : i.space = .cmd) : ExecEffect i s (refuse code s)
  /-- A KEYLOAD installs the whole schedule of a key. -/
  | keyed (key : Block) (rk : RoundKeys) (h : i.space = .cmd) (hrk : keyExpand tables key = .ok rk)
      (hf : s.fatal = false) : ExecEffect i s (respond ⟨.ok, none⟩ { s with rk := rk, kvalid := true })
  /-- A block command answers a block and leaves ST without a value. -/
  | answered (d : Block) (h : i.space = .cmd) (hf : s.fatal = false) (hk : s.kvalid = true) :
      ExecEffect i s (respond ⟨.ok, some d⟩ (dropSt { s with st := d }))
  /-- A micro-operation replaces ST. -/
  | newSt (b : Block) (h : i.space = .uop) : ExecEffect i s { s with st := b }
  /-- A micro-operation replaces the schedule under construction. -/
  | newRkn (rkn : RoundKeys) (h : i.space = .uop) : ExecEffect i s { s with rkn := rkn }
  /-- A multiplier operation leaves its byte. -/
  | newGf (b : Byte) (h : i.space = .gfsel) : ExecEffect i s { s with gfOut := b }
  /-- A single internal operation takes the fatal error. -/
  | aborted (cause : Cause) (h : i.space ≠ .cmd) : ExecEffect i s (takeFatal cause s)

theorem updateSt_effect {i : Instr} (h : i.space = .uop) (f : Block → Raise Block) (s : State) :
    ExecEffect i s (updateSt f s) := by
  rcases updateSt_cases f s with ⟨b, -, e⟩ | ⟨c, -, e⟩ <;> rw [e]
  · exact .newSt b h
  · exact .aborted c (by rw [h]; decide)

theorem updateRkn_effect {i : Instr} (h : i.space = .uop) (f : RoundKeys → Raise RoundKeys) (s : State) :
    ExecEffect i s (updateRkn f s) := by
  rcases updateRkn_cases f s with ⟨b, -, e⟩ | ⟨c, -, e⟩ <;> rw [e]
  · exact .newRkn b h
  · exact .aborted c (by rw [h]; decide)

theorem updateGf_effect {i : Instr} (h : i.space = .gfsel) (r : Raise Byte) (s : State) :
    ExecEffect i s (updateGf r s) := by
  rcases updateGf_cases r s with ⟨b, -, e⟩ | ⟨c, -, e⟩ <;> rw [e]
  · exact .newGf b h
  · exact .aborted c (by rw [h]; decide)

theorem blockCommand_effect {i : Instr} (h : i.space = .cmd) {f : RoundKeys → Block → Raise Block}
    (hf : ∀ rk b, ∃ d, f rk b = .ok d) (payload : List Byte) (s : State) :
    ExecEffect i s (blockCommandWith f payload s) := by
  rcases blockCommand_cases hf payload s with ⟨code, e⟩ | ⟨_, d, -, -, hs, hk, e⟩ <;> rw [e]
  · exact .refused code h
  · exact .answered d h hs hk

theorem keyload_effect {i : Instr} (h : i.space = .cmd) (payload : List Byte) (s : State) :
    ExecEffect i s (keyloadWith tables payload s) := by
  rcases keyload_cases payload s with ⟨code, e⟩ | ⟨key, rk, -, hrk, hf, e⟩ <;> rw [e]
  · exact .refused code h
  · exact .keyed key rk h hrk hf

/-- No meaning faults or refuses, and its effect is one of the seven. -/
theorem exec_effect (i : Instr) (s : State) : ∃ t, exec i s = .next t ∧ ExecEffect i s t := by
  cases i with
  | keyload p => exact ⟨_, rfl, keyload_effect rfl p s⟩
  | encrypt p => exact ⟨_, rfl, blockCommand_effect rfl encBlock_total p s⟩
  | decrypt p => exact ⟨_, rfl, blockCommand_effect rfl decBlock_total p s⟩
  | ark | sb | sr | mc | isr | isb | imc => exact ⟨_, rfl, updateSt_effect rfl _ s⟩
  | kld0 | kexp => exact ⟨_, rfl, updateRkn_effect rfl _ s⟩
  | gfmul1 | gfmul2 | gfmul3 | gfmul9 | gfmul11 | gfmul13 | gfmul14 => exact ⟨_, rfl, updateGf_effect rfl _ s⟩

/-- `exec_effect` read from a next state. -/
theorem effect_of_exec {i : Instr} {s t : State} (h : exec i s = .next t) : ExecEffect i s t := by
  obtain ⟨t', h', e⟩ := exec_effect i s
  rw [h] at h'
  cases h'
  exact e

/-- No operation touches the interface's input side. -/
theorem exec_inp {i : Instr} {s t : State} (h : exec i s = .next t) : t.inp = s.inp ∧ t.rx = s.rx := by
  cases effect_of_exec h <;> exact ⟨rfl, rfl⟩

/-! ### One step -/

/-- What one step can do, apart from stopping. -/
inductive StepEffect (s : State) : State → Prop
  /-- The machine idles. -/
  | idle (hs : s.seq = []) (hi : s.inp = []) : StepEffect s s
  /-- Reset. -/
  | reset (rest : List HostAct) (hs : s.seq = []) (hi : s.inp = .reset :: rest) :
      StepEffect s (applyReset { s with inp := rest })
  /-- Bytes of a command arrive and more are missing. -/
  | wait (bytes : List Byte) (rest : List HostAct) (hs : s.seq = []) (hi : s.inp = .present bytes :: rest)
      (hd : decode .cmd (s.rx ++ bytes) = .error .incomplete) : StepEffect s (takeBytes bytes rest s)
  /-- A whole command of an illegal code is refused. -/
  | illegal (bytes : List Byte) (rest : List HostAct) (hs : s.seq = []) (hi : s.inp = .present bytes :: rest) :
      StepEffect s (refuseIllegal (takeCommand (takeBytes bytes rest s)))
  /-- A whole legal command runs. -/
  | command (bytes : List Byte) (rest : List HostAct) (i : Instr) (t : State) (hs : s.seq = [])
      (hi : s.inp = .present bytes :: rest) (hd : decode .cmd (s.rx ++ bytes) = .ok i)
      (he : ExecEffect i (takeCommand (takeBytes bytes rest s)) t) : StepEffect s t
  /-- A single internal operation runs. -/
  | internal (op : Issue) (rest : List Issue) (i : Instr) (t : State) (hs : s.seq = op :: rest)
      (hd : decode (issueSpace op) (issueBytes op) = .ok i) (he : ExecEffect i { s with seq := rest } t) :
      StepEffect s t
  /-- A multiplier select of an unsupported multiplicand takes the fatal error. -/
  | unsupported (op : Issue) (rest : List Issue) (hs : s.seq = op :: rest) :
      StepEffect s (takeFatal .multiplicand { s with seq := rest })

/-- `step`, read from a next state. -/
theorem effect_of_step {s t : State} (h : step s = .next t) : StepEffect s t := by
  unfold step at h
  split at h
  · next op rest hs =>
    unfold stepIssue at h
    split at h
    · next i hd => exact .internal op rest i t hs hd (effect_of_exec h)
    · cases h; exact .unsupported op rest hs
    · cases h
    · cases h
  · next hs =>
    split at h
    · next hi => cases h; exact .idle hs hi
    · next rest hi => cases h; exact .reset rest hs hi
    · next bytes rest hi =>
      unfold stepCommand at h
      split at h
      · next i hd => exact .command bytes rest i t hs hi hd (effect_of_exec h)
      · next hd => cases h; exact .wait bytes rest hs hi hd
      · cases h
      · cases h; exact .illegal bytes rest hs hi

end Sys2Proof.Machine
end

