-- ==== Sys2Proof/Laws/PerInstr.lean ====
section
/-! SUPPORT. One law for all instructions: the first byte of an instruction's encoding, under its row's mask, is its row's match
value in spec/opcode_table.json (30_encoding.md R73, R76, R78). -/

namespace Sys2Proof.Laws.RowMatch

/-- The match and the mask of an instruction's row, as spec/opcode_table.json prints them. -/
def row : Instr → Byte × Byte
  | .keyload _ => (0x01, 0xff)
  | .encrypt _ => (0x02, 0xff)
  | .decrypt _ => (0x03, 0xff)
  | .gfmul1 _ => (0x01, 0xff)
  | .gfmul2 _ => (0x02, 0xff)
  | .gfmul3 _ => (0x03, 0xff)
  | .gfmul9 _ => (0x09, 0xff)
  | .gfmul11 _ => (0x0b, 0xff)
  | .gfmul13 _ => (0x0d, 0xff)
  | .gfmul14 _ => (0x0e, 0xff)
  | .ark _ => (0x01, 0x0f)
  | .sb => (0x02, 0x0f)
  | .sr => (0x03, 0x0f)
  | .mc => (0x04, 0x0f)
  | .isr => (0x05, 0x0f)
  | .isb => (0x06, 0x0f)
  | .imc => (0x07, 0x0f)
  | .kld0 _ => (0x08, 0x0f)
  | .kexp _ => (0x09, 0x0f)

/-- The first byte of the encoding matches the instruction's row. -/
def Statement (i : Instr) : Prop :=
  ∃ b rest, encode i = b :: rest ∧ b &&& (row i).2 = (row i).1

theorem keyload (payload : List Byte) : Statement (.keyload payload) := ⟨_, _, rfl, by simp only [row]; decide⟩

theorem encrypt (payload : List Byte) : Statement (.encrypt payload) := ⟨_, _, rfl, by simp only [row]; decide⟩

theorem decrypt (payload : List Byte) : Statement (.decrypt payload) := ⟨_, _, rfl, by simp only [row]; decide⟩

theorem gfmul1 (m : Byte) : Statement (.gfmul1 m) := ⟨_, _, rfl, by simp only [row]; decide⟩

theorem gfmul2 (m : Byte) : Statement (.gfmul2 m) := ⟨_, _, rfl, by simp only [row]; decide⟩

theorem gfmul3 (m : Byte) : Statement (.gfmul3 m) := ⟨_, _, rfl, by simp only [row]; decide⟩

theorem gfmul9 (m : Byte) : Statement (.gfmul9 m) := ⟨_, _, rfl, by simp only [row]; decide⟩

theorem gfmul11 (m : Byte) : Statement (.gfmul11 m) := ⟨_, _, rfl, by simp only [row]; decide⟩

theorem gfmul13 (m : Byte) : Statement (.gfmul13 m) := ⟨_, _, rfl, by simp only [row]; decide⟩

theorem gfmul14 (m : Byte) : Statement (.gfmul14 m) := ⟨_, _, rfl, by simp only [row]; decide⟩

theorem ark (j : BitVec 4) : Statement (.ark j) := by
  refine ⟨_, _, rfl, ?_⟩
  revert j
  decide

theorem sb : Statement .sb := ⟨_, _, rfl, by simp only [row]; decide⟩

theorem sr : Statement .sr := ⟨_, _, rfl, by simp only [row]; decide⟩

theorem mc : Statement .mc := ⟨_, _, rfl, by simp only [row]; decide⟩

theorem isr : Statement .isr := ⟨_, _, rfl, by simp only [row]; decide⟩

theorem isb : Statement .isb := ⟨_, _, rfl, by simp only [row]; decide⟩

theorem imc : Statement .imc := ⟨_, _, rfl, by simp only [row]; decide⟩

theorem kld0 (key : Block) : Statement (.kld0 key) := ⟨_, _, rfl, by simp only [row]; decide⟩

theorem kexp (r : BitVec 4) : Statement (.kexp r) := by
  refine ⟨_, _, rfl, ?_⟩
  revert r
  decide

end Sys2Proof.Laws.RowMatch
end

