-- ==== Sys2Proof/Tests/Slice0.lean ====
section
/-! SUPPORT. Small tests of the model, each expectation taken from the spec, and for every statement with hypotheses a witness
that meets them. -/

namespace Sys2Proof.Tests

set_option Elab.async false

open Sys2Proof.Machine

/-! ### Helpers -/

/-- A block from its hexadecimal byte string, first byte leftmost (00_scope.md R9). -/
def hex (v : BitVec 128) : Block := mkBlock fun r c => v.extractLsb' (8 * (15 - (4 * c.val + r.val))) 8

/-- The next state of an outcome. -/
def after : Host.Outcome State Fault Refusal → Option State
  | .next s => some s
  | _ => none

/-- The key of vectors V1 and V3. -/
def keyV3 : Block := hex 0x000102030405060708090a0b0c0d0e0f

/-- The plaintext block of V1. -/
def plainV1 : Block := hex 0x00112233445566778899aabbccddeeff

/-- The ciphertext block of V1. -/
def cipherV1 : Block := hex 0x69c4e0d86a7b0430d8cdb78070b4c55a

/-- The schedule of V3, as 95_test_vectors.md prints it. -/
def scheduleV3 : RoundKeys :=
  #v[hex 0x000102030405060708090a0b0c0d0e0f, hex 0xd6aa74fdd2af72fadaa678f1d6ab76fe,
    hex 0xb692cf0b643dbdf1be9bc5006830b3fe, hex 0xb6ff744ed2c2c9bf6c590cbf0469bf41,
    hex 0x47f7f7bc95353e03f96c32bcfd058dfd, hex 0x3caaa3e8a99f9deb50f3af57adf622aa,
    hex 0x5e390f7df7a69296a7553dc10aa31f6b, hex 0x14f9701ae35fe28c440adf4d4ea9c026,
    hex 0x47438735a41c65b9e016baf4aebf7ad2, hex 0x549932d1f08557681093ed9cbe2c974e,
    hex 0x13111d7fe3944a17f307a78b4d2b30c5]

/-- A state without a key, all values plain. -/
def blank : State :=
  { State.reset with rk := Vector.replicate 11 zeroBlock, st := zeroBlock, rkn := Vector.replicate 11 zeroBlock }

/-- A state with the key of V3 loaded. -/
def keyed : State := { blank with rk := scheduleV3, kvalid := true }

/-- A state after a fatal error with cause MULTIPLICAND, key of V3 loaded. -/
def dead : State := { keyed with fatal := true, fcause := 2 }

/-- `keyed` with a given working block. -/
def working (b : Block) : State := { keyed with st := b }

/-- The response bytes of a command presented at an idle interface. -/
def answer (s : State) (c0 : Byte) (payload : List Byte) : Option (List (List Byte)) :=
  (after (step (s.presenting (commandBytes c0 payload) []))).map fun t => t.out.map responseBytes

/-! ### Well-formedness -/

/-- R71: the length field counts to 255. -/
theorem test_wellFormed_longest : (Instr.keyload (List.replicate 255 0)).wellFormed = true := by decide +kernel

/-- R71: a payload of 256 bytes has no length byte, for each of the three commands. -/
theorem test_illFormed_keyload : (Instr.keyload (List.replicate 256 0)).wellFormed = false := by decide +kernel

theorem test_illFormed_encrypt : (Instr.encrypt (List.replicate 256 0)).wellFormed = false := by decide +kernel

theorem test_illFormed_decrypt : (Instr.decrypt (List.replicate 256 0)).wellFormed = false := by decide +kernel

/-! ### Decoding, one word per operation, written out from R73, R76, R78 -/

/-- 95_test_vectors.md V15, first row: `01 10 00 01 ... 0f`. -/
theorem test_decode_keyload :
    decode .cmd [0b00000001, 0b00010000, 0x00, 0x01, 0x02, 0x03, 0x04, 0x05, 0x06, 0x07, 0x08, 0x09, 0x0a, 0x0b, 0x0c,
      0x0d, 0x0e, 0x0f] = .ok (.keyload (bytesOfBlock keyV3)) := by decide +kernel

theorem test_decode_encrypt : decode .cmd [0b00000010, 0b00000010, 0xa5, 0x5a] = .ok (.encrypt [0xa5, 0x5a]) := by
  decide +kernel

theorem test_decode_decrypt : decode .cmd [0b00000011, 0b00000001, 0xff] = .ok (.decrypt [0xff]) := by decide +kernel

theorem test_decode_gfmul1 : decode .gfsel [0b00000001, 0x57] = .ok (.gfmul1 0x57) := by decide +kernel

theorem test_decode_gfmul2 : decode .gfsel [0b00000010, 0x57] = .ok (.gfmul2 0x57) := by decide +kernel

theorem test_decode_gfmul3 : decode .gfsel [0b00000011, 0x57] = .ok (.gfmul3 0x57) := by decide +kernel

theorem test_decode_gfmul9 : decode .gfsel [0b00001001, 0x57] = .ok (.gfmul9 0x57) := by decide +kernel

theorem test_decode_gfmul11 : decode .gfsel [0b00001011, 0x57] = .ok (.gfmul11 0x57) := by decide +kernel

theorem test_decode_gfmul13 : decode .gfsel [0b00001101, 0x57] = .ok (.gfmul13 0x57) := by decide +kernel

theorem test_decode_gfmul14 : decode .gfsel [0b00001110, 0x57] = .ok (.gfmul14 0x57) := by decide +kernel

theorem test_decode_ark : decode .uop [0b01010001] = .ok (.ark 5) := by decide +kernel

theorem test_decode_sb : decode .uop [0b00000010] = .ok .sb := by decide +kernel

theorem test_decode_sr : decode .uop [0b00000011] = .ok .sr := by decide +kernel

theorem test_decode_mc : decode .uop [0b00000100] = .ok .mc := by decide +kernel

theorem test_decode_isr : decode .uop [0b00000101] = .ok .isr := by decide +kernel

theorem test_decode_isb : decode .uop [0b00000110] = .ok .isb := by decide +kernel

theorem test_decode_imc : decode .uop [0b00000111] = .ok .imc := by decide +kernel

theorem test_decode_kld0 : decode .uop (0b00001000 :: bytesOfBlock keyV3) = .ok (.kld0 keyV3) := by decide +kernel

theorem test_decode_kexp : decode .uop [0b10101001] = .ok (.kexp 10) := by decide +kernel

/-- R75: a nonzero high nibble is illegal; R77: multiplicand 4 is unsupported; R78: label 0xa names nothing. -/
theorem test_decode_rejects :
    decode .cmd [0x12, 0x00] = .error (.illegalCommand 0x12) ∧
    decode .gfsel [0x04, 0x57] = .error (.unsupportedMultiplicand 0x04) ∧
    decode .uop [0x0a] = .error (.unknownLabel 0xa) := by decide +kernel

/-- R71, R80: one byte short, one byte too many. -/
theorem test_decode_extent :
    decode .cmd [0x02, 0x02, 0x00] = .error .incomplete ∧ decode .cmd [0x02, 0x00, 0x00] = .error .overrun := by
  decide +kernel

/-- Rows of spec/opcode_table.json whose word no earlier space accepts, and the rows of 4 bits (log 12). -/
theorem test_table_words :
    decodeTableWord 8 0x01 = some (.keyload []) ∧ decodeTableWord 8 0x0d = some (.gfmul13 0) ∧
    decodeTableWord 8 0x04 = some .mc ∧ decodeTableWord 4 0x1 = some (.ark 0) ∧
    decodeTableWord 8 0x0a = none := by decide +kernel

/-- The next step runs the word placed by `withFetchWord`, from reset, for a word of each space. -/
theorem test_withFetchWord :
    step (State.reset.withFetchWord 8 0x03) = exec (.decrypt []) State.reset ∧
    step (State.reset.withFetchWord 8 0x0e) = exec (.gfmul14 0) State.reset ∧
    step (State.reset.withFetchWord 8 0x06)
      = exec .isb { State.reset with st := zeroBlock, rkn := Vector.replicate 11 zeroBlock } := ⟨rfl, rfl, rfl⟩

/-! ### The commands -/

/-- V3, V15: KEYLOAD from a state without a key installs the printed schedule. -/
theorem test_keyload_V3 :
    after (exec (.keyload (bytesOfBlock keyV3)) blank) = some { keyed with out := [⟨.ok, none⟩] } := by
  decide +kernel

/-- PR2, row 12: a KEYLOAD of one byte keeps the key just loaded. -/
theorem test_keyload_one_byte :
    after (exec (.keyload [0x00]) keyed) = some { keyed with out := [⟨.errKeylen, none⟩] } := by decide +kernel

/-- V1, V15: the known-answer test, as command and response bytes. -/
theorem test_encrypt_V1 :
    answer keyed 0x02 (bytesOfBlock plainV1) = some [0x00 :: 0x10 :: bytesOfBlock cipherV1] := by decide +kernel

/-- V15: the length is checked before the key. -/
theorem test_encrypt_length_before_key : answer blank 0x02 (List.replicate 15 0) = some [[0x02, 0x00]] := by
  decide +kernel

/-- V15: the known-answer block decrypted. -/
theorem test_decrypt_V1 :
    answer keyed 0x03 (bytesOfBlock cipherV1) = some [0x00 :: 0x10 :: bytesOfBlock plainV1] := by decide +kernel

/-- V15: no key yet. -/
theorem test_decrypt_no_key : answer blank 0x03 (bytesOfBlock cipherV1) = some [[0x03, 0x00]] := by decide +kernel

/-- PR2, row 9; 60_exceptions.md R220: an illegal code, and FATAL before it. -/
theorem test_illegal : answer keyed 0x12 [] = some [[0x04, 0x00]] ∧ answer dead 0x07 [] = some [[0x0f, 0x00]] := by
  decide +kernel

/-- PR5: the fatal path under the corrupted matrix: ERR_FATAL, STATUS 0b, and RESET brings STATUS 00. -/
theorem test_fatal_path :
    (encryptWith corruptedTables (bytesOfBlock plainV1) keyed).out.map responseBytes = [[0x0f, 0x00]] ∧
    status (encryptWith corruptedTables (bytesOfBlock plainV1) keyed) = 0x0b ∧
    status (applyReset dead) = 0x00 := by decide +kernel

/-! ### The multiplier (R91 to R97, examples and corner cases; V7) -/

theorem test_gfmul1 : after (exec (.gfmul1 0x57) keyed) = some { keyed with gfOut := 0x57 } := by decide +kernel

theorem test_gfmul2 : after (exec (.gfmul2 0x80) keyed) = some { keyed with gfOut := 0x1b } := by decide +kernel

theorem test_gfmul3 : after (exec (.gfmul3 0x57) keyed) = some { keyed with gfOut := 0xf9 } := by decide +kernel

theorem test_gfmul9 : after (exec (.gfmul9 0x57) keyed) = some { keyed with gfOut := 0xd9 } := by decide +kernel

theorem test_gfmul11 : after (exec (.gfmul11 0xff) keyed) = some { keyed with gfOut := 0xa3 } := by decide +kernel

theorem test_gfmul13 : after (exec (.gfmul13 0x57) keyed) = some { keyed with gfOut := 0x9e } := by decide +kernel

theorem test_gfmul14 : after (exec (.gfmul14 0x80) keyed) = some { keyed with gfOut := 0x41 } := by decide +kernel

/-- R98, V7: `GFMUL(04, 57)` raises; it does not return 47. -/
theorem test_gfmul_unsupported : gfmul tables 0x04 0x57 = .error .multiplicand := by decide +kernel

/-! ### The micro-operations (V8 to V11, V3) -/

/-- R130, example. -/
theorem test_ark :
    after (exec (.ark 1) (working (hex 0x5f72641557f5bc92f7be3b291db9f91a)))
      = some (working (hex 0x89d810e8855ace682d1843d8cb128fe4)) := by decide +kernel

/-- R26, R130: index 11 raises ROUND_INDEX; STATUS is `2 + 4 * 3 + 1`. -/
theorem test_ark_out_of_range : (after (exec (.ark 11) keyed)).map status = some 0x0f := by decide +kernel

theorem test_sb :
    after (exec .sb (working (hex 0x00102030405060708090a0b0c0d0e0f0)))
      = some (working (hex 0x63cab7040953d051cd60e0e7ba70e18c)) := by decide +kernel

theorem test_sr :
    after (exec .sr (working (hex 0x63cab7040953d051cd60e0e7ba70e18c)))
      = some (working (hex 0x6353e08c0960e104cd70b751bacad0e7)) := by decide +kernel

theorem test_mc :
    after (exec .mc (working (hex 0xdb135345f20a225c01010101c6c6c6c6)))
      = some (working (hex 0x8e4da1bc9fdc589d01010101c6c6c6c6)) := by decide +kernel

theorem test_isr :
    after (exec .isr (working (hex 0x000102030405060708090a0b0c0d0e0f)))
      = some (working (hex 0x000d0a0704010e0b0805020f0c090603)) := by decide +kernel

theorem test_isb :
    after (exec .isb (working (hex 0x00112233445566778899aabbccddeeff)))
      = some (working (hex 0x52e3946686edd30297f962fe27c9997d)) := by decide +kernel

theorem test_imc :
    after (exec .imc (working (hex 0xdb135345f20a225c01010101c6c6c6c6)))
      = some (working (hex 0x32a41d55aec3698201010101c6c6c6c6)) := by decide +kernel

theorem test_kld0 :
    after (exec (.kld0 keyV3) blank) = some { blank with rkn := blank.rkn.set 0 keyV3 } := by decide +kernel

/-- V3: round key 10 from round key 9. -/
theorem test_kexp :
    after (exec (.kexp 10) { blank with rkn := scheduleV3.set 10 zeroBlock })
      = some { blank with rkn := scheduleV3 } := by decide +kernel

/-- R115: `r` 0 raises ROUND_INDEX. -/
theorem test_kexp_out_of_range : (after (exec (.kexp 0) blank)).map status = some 0x0e := by decide +kernel

/-! ### The host's framing (PR4) -/

theorem test_padding : padMessage [0x61, 0x62, 0x63] = bytesOfBlock (hex 0x61626380000000000000000000000000) := by
  decide +kernel

/-- PR4: the documented defect is kept. -/
theorem test_unpadding : unpadMessage (padMessage [0x41, 0x80, 0x42]) = [0x41] := by decide +kernel

/-! ### Witnesses: the hypotheses of each statement are met -/

theorem witness_SboxIsAffineOfInverse : (0 : Byte) = 0 ∧ (0xff : Byte) ≠ 0 := by decide

theorem witness_IndexOutsideTableRaises :
    tables.sbox ∈ [tables.sbox, tables.invSbox, tables.gm2, tables.gm3, tables.gm9, tables.gm11, tables.gm13,
      tables.gm14] ∧ (256 ≤ 256 ∧ 255 < 256) ∧ (22 ≤ 22 ∧ 21 < 22) ∧
    tables.mix ∈ [tables.mix, tables.invMix] ∧ ((4 ≤ 4 ∨ 4 ≤ 3) ∧ (4 ≤ 3 ∨ 4 ≤ 4) ∧ (3 < 4 ∧ 3 < 4)) ∧
    (11 ≤ 11 ∧ 10 < 11) := by
  refine ⟨List.mem_cons_self, ?_, ?_, List.mem_cons_self, ?_, ?_⟩ <;> decide

theorem witness_RconDoublesAndTailIsUnread : 0 < 9 ∧ 8 < 9 := by decide

theorem witness_ProductIsFieldMultiplication : (0x01 : Byte) ≠ 0 := by decide

theorem witness_MultiplierIsProduct : (0x01 : Byte) ∈ gfSet ∧ (0x0e : Byte) ∈ gfSet := by decide

theorem witness_GaloisTableLaws :
    (tables.gm2, (2 : Byte)) ∈ [(tables.gm2, (2 : Byte)), (tables.gm3, 3), (tables.gm9, 9), (tables.gm11, 11),
      (tables.gm13, 13), (tables.gm14, 14)] := List.mem_cons_self

/-- A corrupted INV_MIX is what makes DEC_BLOCK raise. -/
def corruptedInverse : Tables := { tables with invMix := corruptedTables.mix }

theorem witness_UnsupportedMultiplicandAborts :
    ((0x00 : Byte) ∉ gfSet ∧ (0x0f : Byte) ∉ gfSet) ∧
    (blockOfBytes (bytesOfBlock plainV1) = some plainV1 ∧ keyed.kvalid = true ∧ keyed.fatal = false) ∧
    encBlock corruptedTables keyed.rk plainV1 = .error .multiplicand ∧
    decBlock corruptedInverse keyed.rk plainV1 = .error .multiplicand := by decide +kernel

theorem witness_ArkCombinesRoundKey :
    (0 : BitVec 4).toNat < 11 ∧ (10 : BitVec 4).toNat < 11 ∧ 11 ≤ (11 : BitVec 4).toNat ∧
    11 ≤ (15 : BitVec 4).toNat := by decide

theorem witness_SbSubstitutesBytes : readTable tables.sbox (0x53 : Byte).toNat = .ok 0xed := by decide +kernel

theorem witness_SrRotatesRowsLeft : 0 < 16 ∧ 15 < 16 := by decide

theorem witness_IsrRotatesRowsRight : 0 < 16 ∧ 15 < 16 := by decide

theorem witness_IsbSubstitutesBack : readTable tables.invSbox (0xed : Byte).toNat = .ok 0x53 := by decide +kernel

theorem witness_Kld0LoadsKey : keyExpand tables keyV3 = .ok scheduleV3 := by decide +kernel

theorem witness_KexpMakesRoundKey :
    (1 ≤ (1 : BitVec 4).toNat ∧ (1 : BitVec 4).toNat ≤ 10) ∧ (1 ≤ (10 : BitVec 4).toNat ∧ (10 : BitVec 4).toNat ≤ 10) ∧
    ¬ (1 ≤ (0 : BitVec 4).toNat ∧ (0 : BitVec 4).toNat ≤ 10) ∧
    ¬ (1 ≤ (11 : BitVec 4).toNat ∧ (11 : BitVec 4).toNat ≤ 10) := by decide

theorem witness_KeyScheduleWordForm :
    (4 ≤ 4 ∧ 4 < 44 ∧ 4 % 4 = 0) ∧ (4 ≤ 43 ∧ 43 < 44 ∧ 43 % 4 ≠ 0) := by decide

/-- A payload of 16 bytes, and the nearest other lengths. -/
theorem lengths_of_payloads :
    (bytesOfBlock keyV3).length = 16 ∧ (List.replicate 15 (0 : Byte)).length ≠ 16 ∧
    (List.replicate 17 (0 : Byte)).length ≠ 16 ∧ (List.replicate 255 (0 : Byte)).length ≤ 255 := by decide +kernel

theorem witness_KeyloadInstallsSchedule :
    (keyed.fatal = false ∧ (bytesOfBlock keyV3).length = 16) ∧
    (blank.fatal = false ∧ (List.replicate 15 (0 : Byte)).length ≠ 16) ∧ dead.fatal = true := by decide +kernel

theorem witness_EncryptAnswersEncBlock :
    (keyed.fatal = false ∧ keyed.kvalid = true ∧ (bytesOfBlock plainV1).length = 16) ∧ dead.fatal = true ∧
    (blank.fatal = false ∧ (List.replicate 17 (0 : Byte)).length ≠ 16) ∧
    (blank.fatal = false ∧ (bytesOfBlock plainV1).length = 16 ∧ blank.kvalid = false) := by decide +kernel

theorem witness_DecryptAnswersDecBlock :
    (keyed.fatal = false ∧ keyed.kvalid = true ∧ (bytesOfBlock cipherV1).length = 16) ∧ dead.fatal = true ∧
    (blank.fatal = false ∧ ([] : List Byte).length ≠ 16) ∧
    (blank.fatal = false ∧ (bytesOfBlock cipherV1).length = 16 ∧ blank.kvalid = false) := by decide +kernel

theorem witness_KeyLengthError :
    blank.fatal = false ∧ (List.replicate 255 (0 : Byte)).length ≤ 255 ∧ (List.replicate 255 (0 : Byte)).length ≠ 16 := by
  decide +kernel

theorem witness_BlockLengthError :
    ((0x03 : Byte) = 0x02 ∨ (0x03 : Byte) = 0x03) ∧ keyed.fatal = false ∧ ([] : List Byte).length ≤ 255 ∧
    ([] : List Byte).length ≠ 16 := by decide

theorem witness_NoKeyError :
    ((0x02 : Byte) = 0x02 ∨ (0x02 : Byte) = 0x03) ∧ blank.fatal = false ∧ (bytesOfBlock plainV1).length = 16 ∧
    blank.kvalid = false := by decide +kernel

theorem witness_IllegalCommandError :
    ((0x00 : Byte) ∉ ([0x01, 0x02, 0x03] : List Byte) ∧ (0x04 : Byte) ∉ ([0x01, 0x02, 0x03] : List Byte)) ∧
    keyed.fatal = false ∧ (List.replicate 255 (0 : Byte)).length ≤ 255 := by decide +kernel

theorem witness_FatalRefusesEveryCommand : dead.fatal = true ∧ ([] : List Byte).length ≤ 255 := by decide

/-- Each error of the check order is the first one somewhere, and so is none. -/
theorem witness_ChecksInOrder :
    firstError 0x07 0 dead = some .errFatal ∧ firstError 0x04 16 keyed = some .errCmd ∧
    firstError 0x01 15 keyed = some .errKeylen ∧ firstError 0x02 15 blank = some .errBlklen ∧
    firstError 0x03 16 blank = some .errNokey ∧ firstError 0x01 16 blank = none ∧ firstError 0x02 16 keyed = none ∧
    (bytesOfBlock plainV1).length ≤ 255 := by decide +kernel

/-- Tables in which SBOX is empty raise TABLE_INDEX in KEYLOAD. -/
def withoutSbox : Tables := { tables with sbox := [] }

theorem witness_FatalErrorAborts :
    (blockOfBytes (bytesOfBlock plainV1) = some plainV1 ∧ keyed.fatal = false ∧ keyed.kvalid = true) ∧
    keyExpand withoutSbox plainV1 = .error .tableIndex ∧
    encBlock corruptedTables keyed.rk plainV1 = .error .multiplicand ∧
    decBlock corruptedInverse keyed.rk plainV1 = .error .multiplicand := by decide +kernel

theorem witness_CorruptedMatrixAborts :
    keyed.fatal = false ∧ keyed.kvalid = true ∧ (bytesOfBlock plainV1).length = 16 := by decide +kernel

theorem witness_BlockAnswersArePure :
    keyed.rk = (working plainV1).rk ∧ keyed.fatal = false ∧ (working plainV1).fatal = false ∧ keyed.kvalid = true ∧
    (working plainV1).kvalid = true ∧ (bytesOfBlock plainV1).length = 16 := by decide +kernel

theorem witness_RekeyTakesEffect :
    keyed.fatal = false ∧ keyed.kvalid = true ∧ keyed.seq = [] ∧ keyed.rx = [] := by decide

theorem witness_StatusLayout :
    (keyed.fatal = false ∧ blank.fatal = false) ∧ blank.fcause = 0 ∧ (bytesOfBlock keyV3).length = 16 := by
  decide +kernel

theorem witness_PartialCommandChangesNothing :
    let first : State := { blank with inp := [.present [0x02]] }
    let second : State := { blank with inp := [.present (List.replicate 15 0)], rx := [0x02, 0x10] }
    (first.seq = [] ∧ first.inp = .present [0x02] :: [] ∧ (first.rx ++ [0x02]).length < 2) ∧
    (second.seq = [] ∧ second.inp = .present (List.replicate 15 0) :: [] ∧
      (second.rx ++ List.replicate 15 0).length < 2 + ((second.rx ++ List.replicate 15 0).getD 1 0).toNat) := by
  decide +kernel

theorem witness_PresentationInPieces :
    blank.seq = [] ∧ blank.rx = [] ∧ ([] : List Byte).length < 2 ∧
    ([0x02, 0x10] : List Byte).length < 2 + (([0x02, 0x10] : List Byte).getD 1 0).toNat := by decide

theorem witness_EarlyCommandHasNoMeaning :
    (0x00 : Byte).toNat < ([0x02] : List Byte).length ∧
    (0xff : Byte).toNat < (List.replicate 256 (0 : Byte)).length := by decide +kernel

theorem witness_OneResponsePerCommand :
    ([] : List Byte).length ≤ 255 ∧ (List.replicate 255 (0 : Byte)).length ≤ 255 := by decide +kernel

theorem witness_ResetClearsFlags :
    let s : State := { dead with inp := [.reset], rx := [0x01, 0x10] }
    s.seq = [] ∧ s.inp = .reset :: [] := by decide

theorem witness_DecodeEncodeAgree :
    (Instr.decrypt (List.replicate 255 0)).wellFormed = true ∧ (Instr.kexp 15).wellFormed = true := by decide +kernel

theorem witness_EncodeDecodeAgree :
    decode .cmd [0x03, 0x01, 0xff] = .ok (.decrypt [0xff]) ∧ decode .gfsel [0x0e, 0xff] = .ok (.gfmul14 0xff) ∧
    decode .uop [0xf1] = .ok (.ark 15) := by decide +kernel

theorem witness_ReservedEncodingsRejected :
    (([] : List Byte).length ≤ 255 ∧ (0xff : Byte) ∉ ([0x01, 0x02, 0x03] : List Byte)) ∧ (0x10 : Byte) ∉ gfSet ∧
    (0x10 : Byte).extractLsb' 0 4 ∈ ([0x0, 0xa, 0xb, 0xc, 0xd, 0xe, 0xf] : List (BitVec 4)) ∧
    (0x0f : Byte).extractLsb' 0 4 ∈ ([0x0, 0xa, 0xb, 0xc, 0xd, 0xe, 0xf] : List (BitVec 4)) := by decide

theorem witness_StepRunsDecoded :
    decode .cmd [0x01, 0x00] = .ok (.keyload []) ∧
    decode (issueSpace (.uop [0x51])) (issueBytes (.uop [0x51])) = .ok (.ark 5) ∧
    decode (issueSpace (.gfsel [0x02, 0x80])) (issueBytes (.gfsel [0x02, 0x80])) = .ok (.gfmul2 0x80) := by
  decide +kernel

theorem witness_StepKeepsInvariant : keyed.Inv ∧ ∃ t, step keyed = .next t :=
  ⟨⟨by unfold State.flagsAgree; decide, fun _ => ⟨keyV3, witness_Kld0LoadsKey⟩⟩, _, rfl⟩

theorem witness_CommandsNeverRaiseFatal :
    State.reset.healthy ∧ State.healthy { keyed with inp := [.present [0x02, 0x00]] } := ⟨⟨rfl, rfl⟩, rfl, rfl⟩

/-- Round keys that differ from those of `blank`, which has no key, and the same round keys where one is loaded. -/
theorem witness_ValuelessRegistersUnseen :
    (blank.seq = [] ∧ (blank.kvalid = true → scheduleV3 = blank.rk) ∧ scheduleV3 ≠ blank.rk) ∧
    (keyed.seq = [] ∧ (keyed.kvalid = true → scheduleV3 = keyed.rk)) := by decide +kernel

theorem witness_OnlyKeyloadWritesRoundKeys :
    (∃ t, step blank = .next t) ∧ (∃ t, step { keyed with inp := [.reset] } = .next t) ∧
    ∃ t, step (blank.presenting (commandBytes 0x01 (bytesOfBlock keyV3)) []) = .next t := ⟨⟨_, rfl⟩, ⟨_, rfl⟩, _, rfl⟩

theorem witness_KvalidWrittenOnlyByKeyloadAndReset :
    ((∃ t, step { keyed with inp := [.reset] } = .next t) ∧ keyed.kvalid = true) ∧
    blank.kvalid = false ∧ (after (exec (.keyload (bytesOfBlock keyV3)) blank)).map State.kvalid = some true :=
  ⟨⟨⟨_, rfl⟩, rfl⟩, rfl, by decide +kernel⟩

theorem witness_FatalIsSticky :
    dead.fatal = true ∧ (∃ t, step (dead.presenting [0x00, 0x00] []) = .next t) ∧
    ∃ t, step { dead with inp := [.reset] } = .next t := ⟨rfl, ⟨_, rfl⟩, _, rfl⟩

theorem witness_PaddingLength : (0x00 : Byte) ∈ (padMessage [0x61]).drop ([0x61] : List Byte).length.succ := by
  decide +kernel

theorem witness_UnpaddingTruncatesAtFirstMarker :
    (0x80 : Byte) ∉ ([] : List Byte) ∧ (0x80 : Byte) ∉ ([0x61, 0x81, 0x7f] : List Byte) := by decide

theorem witness_MessageRoundTrip :
    keyed.fatal = false ∧ keyed.kvalid = true ∧ keyed.seq = [] ∧ keyed.rx = [] ∧
    (0x80 : Byte) ∉ ([0x61, 0x62, 0x63] : List Byte) := by decide

end Sys2Proof.Tests
end

section
/-! PROOFS. The statements of 00_scope.md: the substitution tables are inverse (R16, R51), a block command's answer is a
function of the schedule and its 16 bytes (R5), and every step keeps the invariant (R15, R25, R27, R176). -/

namespace Sys2Proof.Proofs

open Sys2Proof.Machine

/-! ### The invariant along one step -/

/-- The codes of R217 leave 0 for "no fatal error". -/
theorem causeCode_ne_zero (cause : Cause) : causeCode cause ≠ 0 := by
  cases cause <;> decide

/-- The kept first cause is nonzero because FCAUSE already agreed with FATAL; a new one is nonzero by its code. -/
theorem causeAfter_ne_zero {s : State} (h : s.flagsAgree) (cause : Cause) : causeAfter cause s ≠ 0 := by
  unfold causeAfter
  split
  · next hfatal =>
    intro hzero
    simp [h.mp hzero] at hfatal
  · exact causeCode_ne_zero cause

theorem takeFatal_flagsAgree {s : State} (h : s.flagsAgree) (cause : Cause) : (takeFatal cause s).flagsAgree :=
  iff_of_false (causeAfter_ne_zero h cause) (by simp)

/-- The fatal error touches neither RK nor KVALID (R216). -/
theorem takeFatal_inv {s : State} (h : s.Inv) (cause : Cause) : (takeFatal cause s).Inv := by
  obtain ⟨hflags, hschedule⟩ := h
  exact ⟨takeFatal_flagsAgree hflags cause, hschedule⟩

/-- Reset clears the flags and KVALID, so whatever RK then holds is not called a schedule (R240, R241). -/
theorem applyReset_inv (s : State) : (applyReset s).Inv :=
  ⟨iff_of_true rfl rfl, fun hvalid => nomatch hvalid⟩

/-- The invariant reads RK, KVALID, FATAL and FCAUSE alone. -/
theorem inv_of_same_fields {s t : State} (h : s.Inv) (hrk : t.rk = s.rk) (hkvalid : t.kvalid = s.kvalid)
    (hfatal : t.fatal = s.fatal) (hfcause : t.fcause = s.fcause) : t.Inv := by
  simpa only [State.Inv, State.flagsAgree, State.scheduleMade, hrk, hkvalid, hfatal, hfcause] using h

/-- Of the seven effects only an accepted KEYLOAD and the fatal error write a field the invariant reads. -/
theorem execEffect_keeps_inv {i : Instr} {s t : State} (h : s.Inv) (he : ExecEffect i s t) : t.Inv := by
  cases he with
  | refused | answered | newSt | newRkn | newGf => exact inv_of_same_fields h rfl rfl rfl rfl
  | keyed key rk _ hrk _ =>
    obtain ⟨hflags, -⟩ := h
    exact ⟨hflags, fun _ => ⟨key, hrk⟩⟩
  | aborted cause _ => exact takeFatal_inv h cause

theorem stepEffect_keeps_inv {s t : State} (h : s.Inv) (he : StepEffect s t) : t.Inv := by
  cases he with
  | idle => exact h
  | reset => exact applyReset_inv _
  | wait | illegal => exact inv_of_same_fields h rfl rfl rfl rfl
  | command bytes rest i _ _ _ _ he =>
    refine execEffect_keeps_inv ?_ he
    exact inv_of_same_fields h rfl rfl rfl rfl
  | internal op rest i _ _ _ he =>
    refine execEffect_keeps_inv ?_ he
    exact inv_of_same_fields h rfl rfl rfl rfl
  | unsupported op rest _ =>
    exact takeFatal_inv (inv_of_same_fields h rfl rfl rfl rfl) .multiplicand

/-- Settles O50, by the cases of what one step can do. -/
theorem stepKeepsInvariant : Obligations.StepKeepsInvariant := by
  unfold Obligations.StepKeepsInvariant
  intro s t hinv hstep
  exact stepEffect_keeps_inv hinv (effect_of_step hstep)

/-! ### The answer of a block command -/

/-- A command whose checks 1, 3 and 4 of R174 hold is accepted with its payload as a block. -/
theorem acceptCommand_ok {lengthError : RespCode} {needsKey : Bool} {p : List Byte} {b : Block} {s : State}
    (hfatal : s.fatal = false) (hblock : blockOfBytes p = some b) (hkey : needsKey = true → s.kvalid = true) :
    acceptCommand lengthError needsKey p s = .ok b := by
  cases needsKey with
  | false => simp [acceptCommand, hfatal, hblock]
  | true => simp [acceptCommand, hfatal, hblock, hkey rfl]

/-- An accepted block command answers what its transform makes of RK and the payload (R172, R173). -/
theorem blockCommandWith_answers {f : RoundKeys → Block → Raise Block} {p : List Byte} {b d : Block} {s : State}
    (hfatal : s.fatal = false) (hkvalid : s.kvalid = true) (hblock : blockOfBytes p = some b)
    (hd : f s.rk b = .ok d) : answeredWith d s (blockCommandWith f p s) := by
  refine ⟨Config.freeBlock s.draws, s.draws + 1, ?_⟩
  simp only [blockCommandWith, acceptCommand_ok hfatal hblock fun _ => hkvalid, hd]
  rfl

/-- R5 for any block transform that never raises: two keyed states with the same RK give the same answer block. -/
theorem blockCommandWith_same_answer {f : RoundKeys → Block → Raise Block} (hf : ∀ rk b, ∃ d, f rk b = .ok d)
    {s s' : State} {p : List Byte} (hrk : s.rk = s'.rk) (hfatal : s.fatal = false) (hfatal' : s'.fatal = false)
    (hkvalid : s.kvalid = true) (hkvalid' : s'.kvalid = true) (hlen : p.length = 16) :
    ∃ d, answeredWith d s (blockCommandWith f p s) ∧ answeredWith d s' (blockCommandWith f p s') := by
  obtain ⟨b, hblock⟩ := blockOfBytes_of_length hlen
  obtain ⟨d, hd⟩ := hf s.rk b
  exact ⟨d, blockCommandWith_answers hfatal hkvalid hblock hd,
    blockCommandWith_answers hfatal' hkvalid' hblock (hrk ▸ hd)⟩

/-- Settles O36: both block commands are block transforms that never raise under the printed tables. -/
theorem blockAnswersArePure : Obligations.BlockAnswersArePure := by
  unfold Obligations.BlockAnswersArePure
  intro s s' p hrk hfatal hfatal' hkvalid hkvalid' hlen
  obtain ⟨d, henc, henc'⟩ :=
    blockCommandWith_same_answer encBlock_total hrk hfatal hfatal' hkvalid hkvalid' hlen
  obtain ⟨e, hdec, hdec'⟩ :=
    blockCommandWith_same_answer decBlock_total hrk hfatal hfatal' hkvalid hkvalid' hlen
  exact ⟨⟨d, _, _, rfl, rfl, henc, henc'⟩, ⟨e, _, _, rfl, rfl, hdec, hdec'⟩⟩

/-! ### The substitution tables -/

@[simp] theorem entryOf_invSbox_sbox (b : Byte) : entryOf tables.invSbox (entryOf tables.sbox b) = b := by
  revert b; decide +kernel

@[simp] theorem entryOf_sbox_invSbox (b : Byte) : entryOf tables.sbox (entryOf tables.invSbox b) = b := by
  revert b; decide +kernel

/-- Settles O1: reads of the two tables never raise, and their entries undo each other. -/
theorem substitutionTablesInverse : Obligations.SubstitutionTablesInverse := by
  unfold Obligations.SubstitutionTablesInverse
  intro b
  constructor
  · exact ⟨entryOf tables.sbox b, readTable_sbox b, by rw [readTable_invSbox, entryOf_invSbox_sbox]⟩
  · exact ⟨entryOf tables.invSbox b, readTable_invSbox b, by rw [readTable_sbox, entryOf_sbox_invSbox]⟩

end Sys2Proof.Proofs
end

section
/-! PROOFS. The statements of 10_state.md: STATUS shows the flags (R27), reset gives the flags and the invariant (R32), FATAL is
sticky (R25), RK and KVALID are written by KEYLOAD and reset alone (R21, R24), and the host never sees a register that holds no
value (R23, R30). -/

namespace Sys2Proof.Proofs

open Sys2Proof.Machine

/-! ### One step, an equation per case -/

theorem step_idle {s : State} (hseq : s.seq = []) (hinp : s.inp = []) : step s = .next s := by
  simp only [step, hseq, hinp]

theorem step_reset {s : State} {rest : List HostAct} (hseq : s.seq = []) (hinp : s.inp = .reset :: rest) :
    step s = .next (applyReset { s with inp := rest }) := by
  simp only [step, hseq, hinp]

theorem step_present {s : State} {bytes : List Byte} {rest : List HostAct} (hseq : s.seq = [])
    (hinp : s.inp = .present bytes :: rest) : step s = stepCommand (takeBytes bytes rest s) := by
  simp only [step, hseq, hinp]

/-- A command whose last byte arrives runs in that step (R170). -/
theorem step_command {s : State} {bytes : List Byte} {rest : List HostAct} {i : Instr} (hseq : s.seq = [])
    (hinp : s.inp = .present bytes :: rest) (hdecode : decode .cmd (s.rx ++ bytes) = .ok i) :
    step s = exec i (takeCommand (takeBytes bytes rest s)) := by
  simp only [step_present hseq hinp, stepCommand, takeBytes_rx, hdecode]

/-- A step that goes on lets the run go on from there. -/
theorem run_succ_of_next {s s' : State} (h : step s = .next s') (n : Nat) : core.run (n + 1) s = core.run n s' := by
  have hstep : core.step s = .next s' := h
  simp only [Host.Core.run, hstep]

theorem run_succ_of_refused {s : State} {r : Refusal} (h : step s = .refused r) (n : Nat) :
    core.run (n + 1) s = .refused r := by
  have hstep : core.step s = .refused r := h
  simp only [Host.Core.run, hstep]

/-! ### STATUS -/

/-- STATUS as a number: each flag at its bit's weight (R27). -/
theorem status_toNat (s : State) :
    (status s).toNat = 2 * s.fatal.toNat + 4 * s.fcause.toNat + s.kvalid.toNat := by
  unfold status
  generalize s.kvalid = kvalid, s.fatal = fatal, s.fcause = fcause
  revert kvalid fatal fcause
  decide

/-- Each field of STATUS reads back its flag (R27). -/
theorem status_fields (s : State) :
    (status s).getLsbD 0 = s.kvalid ∧ (status s).getLsbD 1 = s.fatal ∧
      (status s).extractLsb' 2 2 = s.fcause ∧ (status s).extractLsb' 4 4 = (0 : BitVec 4) := by
  unfold status
  generalize s.kvalid = kvalid, s.fatal = fatal, s.fcause = fcause
  revert kvalid fatal fcause
  decide

theorem causeAfter_of_not_fatal {s : State} (h : s.fatal = false) (cause : Cause) :
    causeAfter cause s = causeCode cause := by
  simp [causeAfter, h]

/-- The first fatal error leaves STATUS at `2 + 4c + KVALID` (R27, R216). -/
theorem status_takeFatal {s : State} (h : s.fatal = false) (cause : Cause) :
    (status (takeFatal cause s)).toNat = 2 + 4 * (causeCode cause).toNat + s.kvalid.toNat := by
  rw [status_toNat, takeFatal_fatal, takeFatal_fcause, takeFatal_kvalid, causeAfter_of_not_fatal h, Bool.toNat_true]

/-- A KEYLOAD of 16 bytes with FATAL 0 installs the schedule of its payload (R171). -/
theorem keyload_accepted {s : State} {p : List Byte} (hfatal : s.fatal = false) (hlen : p.length = 16) :
    ∃ rk, keyloadWith tables p s = respond ⟨.ok, none⟩ { s with rk := rk, kvalid := true } := by
  obtain ⟨key, hkey⟩ := blockOfBytes_of_length hlen
  obtain ⟨rk, hrk⟩ := keyExpand_total key
  have haccept : acceptCommand .errKeylen false p s = .ok key := acceptCommand_ok hfatal hkey nofun
  exact ⟨rk, by simp only [keyloadWith, haccept, hrk]⟩

theorem status_of_keyed {s : State} (rk : RoundKeys) (hfatal : s.fatal = false) (hfcause : s.fcause = 0) :
    status { s with rk := rk, kvalid := true } = 0x01 := by
  simp only [status, hfatal, hfcause]
  decide

/-- Settles O38, a clause at a time. -/
theorem statusLayout : Obligations.StatusLayout := by
  unfold Obligations.StatusLayout
  refine ⟨status_fields, rfl, fun s cause hfatal => status_takeFatal hfatal cause, ?_⟩
  intro s p hfatal hfcause hlen
  obtain ⟨rk, hkeyload⟩ := keyload_accepted hfatal hlen
  refine ⟨_, rfl, ?_⟩
  rw [hkeyload, status_respond, status_of_keyed rk hfatal hfcause]

/-! ### Reset -/

/-- KVALID is 0 at reset, so the free values in RK are not called a schedule (R32). -/
theorem reset_inv : State.reset.Inv :=
  ⟨iff_of_true rfl rfl, fun hvalid => nomatch hvalid⟩

/-- Settles O51: the flags are those of `State.reset` by definition. -/
theorem resetMeetsInvariant : Obligations.ResetMeetsInvariant := by
  unfold Obligations.ResetMeetsInvariant
  exact ⟨rfl, rfl, rfl, rfl, reset_inv, rfl, rfl⟩

/-! ### FATAL -/

/-- FATAL is 1 with the cause `c`. -/
def fatalWith (c : BitVec 2) (s : State) : Prop := s.fatal = true ∧ s.fcause = c

/-- A further fatal error keeps the first cause (R25, R216). -/
theorem takeFatal_keeps_fatalWith {c : BitVec 2} {s : State} (h : fatalWith c s) (cause : Cause) :
    fatalWith c (takeFatal cause s) := by
  obtain ⟨hfatal, hcause⟩ := h
  exact ⟨rfl, by simp only [takeFatal_fcause, causeAfter, hfatal, if_true, hcause]⟩

theorem execEffect_keeps_fatalWith {c : BitVec 2} {i : Instr} {s t : State} (he : ExecEffect i s t)
    (h : fatalWith c s) : fatalWith c t := by
  cases he with
  | refused | keyed | answered | newSt | newRkn | newGf => exact h
  | aborted cause _ => exact takeFatal_keeps_fatalWith h cause

/-- Of all a step can do only reset takes FATAL back (R222). -/
theorem stepEffect_keeps_fatalWith {c : BitVec 2} {s t : State} (h : fatalWith c s) (he : StepEffect s t) :
    fatalWith c t ∨ (s.seq = [] ∧ ∃ rest, s.inp = .reset :: rest) := by
  cases he with
  | reset rest hseq hinp => exact .inr ⟨hseq, rest, hinp⟩
  | idle | wait | illegal => exact .inl h
  | command _ _ _ _ _ _ _ he | internal _ _ _ _ _ _ he => exact .inl (execEffect_keeps_fatalWith he h)
  | unsupported _ rest _ => exact .inl (takeFatal_keeps_fatalWith (s := { s with seq := rest }) h .multiplicand)

/-- Settles O57, by the cases of what one step can do. -/
theorem fatalIsSticky : Obligations.FatalIsSticky := by
  unfold Obligations.FatalIsSticky
  intro s t hstep hfatal
  exact stepEffect_keeps_fatalWith ⟨hfatal, rfl⟩ (effect_of_step hstep)

/-! ### RK and KVALID -/

/-- RK and KVALID are the same in `t` as in `s`. -/
def sameKey (s t : State) : Prop := t.rk = s.rk ∧ t.kvalid = s.kvalid

/-- `i`, run in `s`, is a KEYLOAD of the 16 bytes of a key with FATAL 0, and `t` holds that key's whole schedule. -/
def installsKey (i : Instr) (s t : State) : Prop :=
  ∃ key, i = .keyload (bytesOfBlock key) ∧ s.fatal = false ∧ t.kvalid = true ∧ keyExpand tables key = .ok t.rk

theorem keyload_sameKey_or_installs (p : List Byte) (s : State) :
    sameKey s (keyloadWith tables p s) ∨ installsKey (.keyload p) s (keyloadWith tables p s) := by
  rcases keyload_cases p s with ⟨code, e⟩ | ⟨key, rk, hp, hrk, hfatal, e⟩ <;> rw [e]
  · exact .inl ⟨rfl, rfl⟩
  · exact .inr ⟨key, by rw [bytesOfBlock_of_some hp], hfatal, rfl, hrk⟩

theorem blockCommand_sameKey {f : RoundKeys → Block → Raise Block} (hf : ∀ rk b, ∃ d, f rk b = .ok d)
    (p : List Byte) (s : State) : sameKey s (blockCommandWith f p s) := by
  rcases blockCommand_cases hf p s with ⟨code, e⟩ | ⟨b, d, -, -, -, -, e⟩ <;> rw [e] <;> exact ⟨rfl, rfl⟩

/-- No internal operation writes RK or KVALID: KLD0 and KEXP write the schedule under construction (R21, log 6). -/
theorem execEffect_internal_sameKey {i : Instr} {s t : State} (hi : i.space ≠ .cmd) (he : ExecEffect i s t) :
    sameKey s t := by
  cases he with
  | refused _ h => exact absurd h hi
  | keyed _ _ h => exact absurd h hi
  | answered _ h => exact absurd h hi
  | newSt | newRkn | newGf | aborted => exact ⟨rfl, rfl⟩

/-- Of the 19 operations only KEYLOAD writes RK and KVALID (R21, R24). -/
theorem exec_sameKey_or_installs {i : Instr} {s t : State} (h : exec i s = .next t) :
    sameKey s t ∨ installsKey i s t := by
  by_cases hi : i.space = .cmd
  case neg => exact .inl (execEffect_internal_sameKey hi (effect_of_exec h))
  case pos =>
    cases i with
    | keyload p => cases h; exact keyload_sameKey_or_installs p s
    | encrypt p => cases h; exact .inl (blockCommand_sameKey encBlock_total p s)
    | decrypt p => cases h; exact .inl (blockCommand_sameKey decBlock_total p s)
    | _ => cases hi

theorem issueSpace_ne_cmd (op : Issue) : issueSpace op ≠ .cmd := by
  cases op <;> nofun

/-- Who writes RK and KVALID in one step: nothing, reset, or an accepted KEYLOAD (R21, R24, R28). -/
theorem step_sameKey_or_reset_or_installs {s t : State} (h : step s = .next t) :
    sameKey s t ∨
    (s.seq = [] ∧ (∃ rest, s.inp = .reset :: rest) ∧ t.kvalid = false) ∨
    (s.seq = [] ∧ ∃ bytes rest i, s.inp = .present bytes :: rest ∧ decode .cmd (s.rx ++ bytes) = .ok i ∧
      installsKey i s t) := by
  cases effect_of_step h with
  | idle | wait | illegal | unsupported => exact .inl ⟨rfl, rfl⟩
  | reset rest hseq hinp => exact .inr (.inl ⟨hseq, ⟨rest, hinp⟩, rfl⟩)
  | command bytes rest i _ hseq hinp hdecode _ =>
    rw [step_command hseq hinp hdecode] at h
    rcases exec_sameKey_or_installs h with hsame | hinstalls
    · exact .inl hsame
    · exact .inr (.inr ⟨hseq, bytes, rest, i, hinp, hdecode, hinstalls⟩)
  | internal op rest i _ _ hdecode he =>
    have hspace : i.space ≠ .cmd := decode_space hdecode ▸ issueSpace_ne_cmd op
    have hsame := execEffect_internal_sameKey hspace he
    exact .inl hsame

/-- Settles O55, read from who writes RK in one step. -/
theorem onlyKeyloadWritesRoundKeys : Obligations.OnlyKeyloadWritesRoundKeys := by
  unfold Obligations.OnlyKeyloadWritesRoundKeys
  intro s t hstep
  rcases step_sameKey_or_reset_or_installs hstep with ⟨hrk, -⟩ | ⟨hseq, hreset, -⟩ |
    ⟨hseq, bytes, rest, _, hinp, hdecode, key, rfl, hfatal, hkvalid, hrk⟩
  · exact .inl hrk
  · exact .inr (.inl ⟨hseq, hreset⟩)
  · exact .inr (.inr ⟨hseq, bytes, rest, key, hinp, hdecode, hfatal, hkvalid, hrk⟩)

/-- Settles O56, read from who writes KVALID in one step. -/
theorem kvalidWrittenOnlyByKeyloadAndReset : Obligations.KvalidWrittenOnlyByKeyloadAndReset := by
  unfold Obligations.KvalidWrittenOnlyByKeyloadAndReset
  intro s t hstep
  rcases step_sameKey_or_reset_or_installs hstep with ⟨-, hkvalid⟩ | ⟨hseq, hreset, hcleared⟩ |
    ⟨hseq, bytes, rest, _, hinp, hdecode, key, rfl, hfatal, hset, -⟩
  · rw [hkvalid]
    exact ⟨.inl, fun hclear hset => absurd hset (by simp [hclear])⟩
  · exact ⟨fun _ => .inr ⟨hseq, hreset⟩, fun _ hset => absurd hset (by simp [hcleared])⟩
  · exact ⟨fun _ => .inl hset, fun _ _ => ⟨hseq, bytes, rest, key, hinp, hdecode, hfatal⟩⟩

/-! ### Registers without a value -/

/-- `t` is like `s` in all that can reach the host: the flags, the interface, and RK while KVALID is 1. ST, RKn, `gfOut` and the
count of free values are left open, and nothing is issued inside CORE. -/
structure SameToHost (s t : State) : Prop where
  idle : s.seq = []
  idle' : t.seq = []
  kvalid : t.kvalid = s.kvalid
  fatal : t.fatal = s.fatal
  fcause : t.fcause = s.fcause
  inp : t.inp = s.inp
  rx : t.rx = s.rx
  out : t.out = s.out
  rk : s.kvalid = true → t.rk = s.rk

section
variable {s t : State}

theorem SameToHost.status (h : SameToHost s t) : Machine.status t = Machine.status s := by
  simp only [Machine.status, h.kvalid, h.fatal, h.fcause]

theorem SameToHost.hostView (h : SameToHost s t) : t.hostView = s.hostView := by
  simp only [State.hostView, h.out, h.status]

theorem SameToHost.withSt (h : SameToHost s t) (b : Block) : SameToHost { s with st := b } { t with st := b } :=
  { h with }

theorem SameToHost.dropSt (h : SameToHost s t) : SameToHost (Machine.dropSt s) (Machine.dropSt t) :=
  { h with }

theorem SameToHost.respond (h : SameToHost s t) (q : Response) :
    SameToHost (Machine.respond q s) (Machine.respond q t) :=
  { h with out := by simp only [respond_out, h.out] }

theorem SameToHost.refuse (h : SameToHost s t) (code : RespCode) :
    SameToHost (Machine.refuse code s) (Machine.refuse code t) :=
  h.respond ⟨code, none⟩

theorem SameToHost.takeFatal (h : SameToHost s t) (cause : Cause) :
    SameToHost (Machine.takeFatal cause s) (Machine.takeFatal cause t) :=
  { h with
    idle := rfl
    idle' := rfl
    fatal := rfl
    fcause := by simp only [takeFatal_fcause, causeAfter, h.fatal, h.fcause]
    out := by simp only [takeFatal_out, h.out] }

/-- Reset clears KVALID, so the free values it leaves in RK do not count (R30, R241). -/
theorem SameToHost.applyReset (h : SameToHost s t) (rest : List HostAct) :
    SameToHost (Machine.applyReset { s with inp := rest }) (Machine.applyReset { t with inp := rest }) :=
  { h with
    idle := rfl
    idle' := rfl
    kvalid := rfl
    fatal := rfl
    fcause := rfl
    inp := rfl
    rx := rfl
    rk := nofun }

theorem SameToHost.takeBytes (h : SameToHost s t) (bytes : List Byte) (rest : List HostAct) :
    SameToHost (Machine.takeBytes bytes rest s) (Machine.takeBytes bytes rest t) :=
  { h with
    inp := rfl
    rx := by simp only [takeBytes_rx, h.rx] }

theorem SameToHost.takeCommand (h : SameToHost s t) :
    SameToHost (Machine.takeCommand s) (Machine.takeCommand t) :=
  { h with rx := rfl }

theorem SameToHost.refuseIllegal (h : SameToHost s t) :
    SameToHost (Machine.refuseIllegal s) (Machine.refuseIllegal t) := by
  unfold Machine.refuseIllegal
  rw [h.fatal]
  exact h.refuse _

/-- The checks of R174 read FATAL and KVALID alone. -/
theorem SameToHost.acceptCommand (h : SameToHost s t) (lengthError : RespCode) (needsKey : Bool) (p : List Byte) :
    Machine.acceptCommand lengthError needsKey p t = Machine.acceptCommand lengthError needsKey p s := by
  simp only [Machine.acceptCommand, h.fatal, h.kvalid]

theorem SameToHost.keyloadWith (h : SameToHost s t) (T : Tables) (p : List Byte) :
    SameToHost (Machine.keyloadWith T p s) (Machine.keyloadWith T p t) := by
  unfold Machine.keyloadWith
  rw [h.acceptCommand]
  split
  · exact h.refuse _
  · split
    · exact h.takeFatal _
    · next rk _ =>
      have hkeyed : SameToHost { s with rk := rk, kvalid := true } { t with rk := rk, kvalid := true } :=
        { h with kvalid := rfl, rk := fun _ => rfl }
      exact hkeyed.respond _

/-- A block command writes ST before it reads it, and reads RK only after check 4 has found KVALID 1 (R23, R172 to R174). -/
theorem SameToHost.blockCommandWith (h : SameToHost s t) (f : RoundKeys → Block → Raise Block) (p : List Byte) :
    SameToHost (Machine.blockCommandWith f p s) (Machine.blockCommandWith f p t) := by
  unfold Machine.blockCommandWith
  rw [h.acceptCommand]
  rcases acceptCommand_cases .errBlklen true p s with ⟨code, haccept⟩ | ⟨b, haccept, -, -, hkvalid⟩
  · simp only [haccept]
    exact h.refuse code
  · have hf : f t.rk b = f s.rk b := by rw [h.rk (hkvalid rfl)]
    simp only [haccept, hf]
    split
    · exact (h.withSt b).takeFatal _
    · next d _ => exact (h.withSt d).dropSt.respond _

/-- Two outcomes the host cannot tell apart. -/
inductive OutcomesAlike :
    Host.Outcome State Fault Refusal → Host.Outcome State Fault Refusal → Prop
  | next {s t : State} (h : SameToHost s t) : OutcomesAlike (.next s) (.next t)
  | refused (r : Refusal) : OutcomesAlike (.refused r) (.refused r)

theorem SameToHost.exec (h : SameToHost s t) {i : Instr} (hi : i.space = .cmd) :
    OutcomesAlike (Machine.exec i s) (Machine.exec i t) := by
  cases i with
  | keyload p => exact .next (h.keyloadWith tables p)
  | encrypt p => exact .next (h.blockCommandWith (encBlock tables) p)
  | decrypt p => exact .next (h.blockCommandWith (decBlock tables) p)
  | _ => cases hi

theorem SameToHost.stepCommand (h : SameToHost s t) :
    OutcomesAlike (Machine.stepCommand s) (Machine.stepCommand t) := by
  unfold Machine.stepCommand
  rw [h.rx]
  split
  · next i hdecode => exact h.takeCommand.exec (decode_space hdecode)
  · exact .next h
  · exact .refused _
  · exact .next h.takeCommand.refuseIllegal

/-- One step keeps two states alike, or stops in both. -/
theorem SameToHost.step (h : SameToHost s t) : OutcomesAlike (Machine.step s) (Machine.step t) := by
  match hinp : s.inp with
  | [] =>
    rw [step_idle h.idle hinp, step_idle h.idle' (h.inp.trans hinp)]
    exact .next h
  | .reset :: rest =>
    rw [step_reset h.idle hinp, step_reset h.idle' (h.inp.trans hinp)]
    exact .next (h.applyReset rest)
  | .present bytes :: rest =>
    rw [step_present h.idle hinp, step_present h.idle' (h.inp.trans hinp)]
    exact (h.takeBytes bytes rest).stepCommand

/-- Runs of any length from two states that are alike show the host the same (R30). -/
theorem SameToHost.run (h : SameToHost s t) (n : Nat) :
    hostViewOf (core.run n t) = hostViewOf (core.run n s) := by
  induction n generalizing s t with
  | zero => exact congrArg some h.hostView
  | succ n ih =>
    have halike := h.step
    generalize hs : Machine.step s = a, ht : Machine.step t = b at halike
    cases halike with
    | next h' => rw [run_succ_of_next hs, run_succ_of_next ht, ih h']
    | refused r => rw [run_succ_of_refused hs, run_succ_of_refused ht]

end

/-- Settles O54: the two states are alike in all that can reach the host, and every step keeps them so. -/
theorem valuelessRegistersUnseen : Obligations.ValuelessRegistersUnseen := by
  unfold Obligations.ValuelessRegistersUnseen
  intro s rk rkn st gf n hseq hrk
  have halike : SameToHost s { s with rk := rk, st := st, rkn := rkn, gfOut := gf } :=
    { idle := hseq, idle' := hseq, kvalid := rfl, fatal := rfl, fcause := rfl, inp := rfl, rx := rfl, out := rfl,
      rk := hrk }
  exact halike.run n

end Sys2Proof.Proofs
end

section
/-! PROOFS. The statements of 20_memory.md: where a table read raises (R61), the Galois tables as expressions in `xtime` (R53 to
R58), SBOX as the affine map of the field inverse (R50), and the round constants with their unread tail (R59). -/

namespace Sys2Proof.Proofs

open Sys2Proof.Machine

/-! ### Where a table read raises -/

/-- `t` is printed as `height` rows of `width` bytes each. -/
abbrev hasShape (t : Rows) (height width : Nat) : Prop :=
  t.length = height ∧ ∀ row ∈ t, row.length = width

section
variable {t : Rows} {height width : Nat}

theorem readEntry_of_outside (h : hasShape t height width) {r c : Nat} (hout : height ≤ r ∨ width ≤ c) :
    readEntry t r c = .error .tableIndex := by
  obtain ⟨hheight, hwidth⟩ := h
  unfold readEntry
  split
  · rfl
  · next bytes hrow =>
    obtain ⟨hr, -⟩ := List.getElem?_eq_some_iff.mp hrow
    have hbytes : bytes.length = width := hwidth bytes (List.mem_of_getElem? hrow)
    have hcol : bytes[c]? = none := List.getElem?_eq_none (by omega)
    rw [hcol]

theorem readEntry_of_inside (h : hasShape t height width) {r c : Nat} (hr : r < height) (hc : c < width) :
    ∃ b, readEntry t r c = .ok b := by
  obtain ⟨hheight, hwidth⟩ := h
  have hr' : r < t.length := by omega
  have hbytes : t[r].length = width := hwidth t[r] (List.getElem_mem hr')
  have hc' : c < t[r].length := by omega
  exact ⟨t[r][c], by simp only [readEntry, List.getElem?_eq_getElem hr', List.getElem?_eq_getElem hc']⟩

end

/-- A byte-indexed table raises exactly from index 256 on: the row is then beyond the sixteen (R40, R61). -/
theorem readTable_of_ge {t : Rows} (h : hasShape t 16 16) {i : Nat} (hi : 256 ≤ i) :
    readTable t i = .error .tableIndex :=
  readEntry_of_outside h (.inl (by omega))

theorem readTable_of_lt {t : Rows} (h : hasShape t 16 16) {i : Nat} (hi : i < 256) : ∃ b, readTable t i = .ok b :=
  readEntry_of_inside h (by omega) (by omega)

theorem readRcon_of_ge {t : List Byte} {i : Nat} (h : t.length ≤ i) : readRcon t i = .error .tableIndex := by
  simp only [readRcon, List.getElem?_eq_none h]

theorem readRcon_of_lt {t : List Byte} {i : Nat} (h : i < t.length) : readRcon t i = .ok t[i] := by
  simp only [readRcon, List.getElem?_eq_getElem h]

/-- The eight byte-indexed tables are printed in 16 rows of 16 (R40). -/
theorem byteTables_hasShape :
    ∀ t ∈ [tables.sbox, tables.invSbox, tables.gm2, tables.gm3, tables.gm9, tables.gm11, tables.gm13, tables.gm14],
      hasShape t 16 16 := by decide +kernel

/-- MIX and INV_MIX are four by four (R60). -/
theorem matrices_hasShape : ∀ t ∈ [tables.mix, tables.invMix], hasShape t 4 4 := by decide

/-- RCON has its ten constants and the twelve entries of RCON_TAIL (R59). -/
theorem length_rcon : tables.rcon.length = 22 := rfl

/-- Settles O5: each table has the shape the rules give, and a read raises exactly outside it. -/
theorem indexOutsideTableRaises : Obligations.IndexOutsideTableRaises := by
  unfold Obligations.IndexOutsideTableRaises
  refine ⟨fun t ht i => ?_, fun i => ?_, fun t ht r c => ?_, fun rk j => ?_⟩
  · have hshape := byteTables_hasShape t ht
    exact ⟨readTable_of_ge hshape, readTable_of_lt hshape⟩
  · rw [← length_rcon]
    exact ⟨readRcon_of_ge, fun hi => ⟨_, readRcon_of_lt hi⟩⟩
  · have hshape := matrices_hasShape t ht
    exact ⟨readEntry_of_outside hshape, fun ⟨hr, hc⟩ => readEntry_of_inside hshape hr hc⟩
  · exact ⟨readRk_of_ge, readRk_of_lt⟩

/-! ### The Galois tables -/

@[simp] theorem readTable_gm2 (m : Byte) : readTable tables.gm2 m.toNat = .ok (xtime m) := by
  revert m; decide +kernel

@[simp] theorem readTable_gm3 (m : Byte) : readTable tables.gm3 m.toNat = .ok (xtime m ^^^ m) := by
  revert m; decide +kernel

@[simp] theorem readTable_gm9 (m : Byte) :
    readTable tables.gm9 m.toNat = .ok (xtime (xtime (xtime m)) ^^^ m) := by
  revert m; decide +kernel

@[simp] theorem readTable_gm11 (m : Byte) :
    readTable tables.gm11 m.toNat = .ok (xtime (xtime (xtime m)) ^^^ m ^^^ xtime m) := by
  revert m; decide +kernel

@[simp] theorem readTable_gm13 (m : Byte) :
    readTable tables.gm13 m.toNat = .ok (xtime (xtime (xtime m)) ^^^ m ^^^ xtime (xtime m)) := by
  revert m; decide +kernel

@[simp] theorem readTable_gm14 (m : Byte) :
    readTable tables.gm14 m.toNat = .ok (xtime (xtime (xtime m)) ^^^ xtime (xtime m) ^^^ xtime m) := by
  revert m; decide +kernel

/-- Settles O3, table by table. -/
theorem galoisTablesAsDefined : Obligations.GaloisTablesAsDefined := by
  unfold Obligations.GaloisTablesAsDefined
  intro m
  exact ⟨readTable_gm2 m, readTable_gm3 m, readTable_gm9 m, readTable_gm11 m, readTable_gm13 m, readTable_gm14 m⟩

/-! ### SBOX and the field inverse -/

/-- The affine map of R50 undone. -/
def affineInverse (b : Byte) : Byte :=
  b.rotateLeft 1 ^^^ b.rotateLeft 3 ^^^ b.rotateLeft 6 ^^^ 0x05

@[simp] theorem affine_affineInverse (b : Byte) : affine (affineInverse b) = b := by
  revert b; decide +kernel

/-- The one byte whose affine image SBOX holds at `a`; R50 wants it to be the inverse of `a`. -/
def sboxInverse (a : Byte) : Byte := affineInverse (entryOf tables.sbox a)

theorem entryOf_sbox (a : Byte) : entryOf tables.sbox a = affine (sboxInverse a) :=
  (affine_affineInverse _).symm

theorem sboxInverse_zero : sboxInverse 0 = 0 := by decide +kernel

theorem gfProduct_sboxInverse {a : Byte} (h : a ≠ 0) : gfProduct a (sboxInverse a) = 1 := by
  revert a; decide +kernel

/-- Settles O2: the printed SBOX, taken back through the affine map, gives the inverse. -/
theorem sboxIsAffineOfInverse : Obligations.SboxIsAffineOfInverse := by
  unfold Obligations.SboxIsAffineOfInverse
  intro a
  refine ⟨sboxInverse a, ?_, gfProduct_sboxInverse, ?_⟩
  · rintro rfl
    exact sboxInverse_zero
  · rw [readTable_sbox, entryOf_sbox]

/-! ### The round constants -/

/-- The constant doubled `i` times from 1. -/
def roundConstant : Nat → Byte
  | 0 => 1
  | i + 1 => xtime (roundConstant i)

/-- The ten printed constants are the doublings of 1 (R59). -/
theorem readRcon_eq_roundConstant {i : Nat} (h : i < 10) : readRcon tables.rcon i = .ok (roundConstant i) := by
  interval_cases i <;> rfl

/-- The entries before `n` are read the same whatever follows them. -/
theorem readRcon_take_append {n i : Nat} {t : List Byte} (hi : i < n) (hn : n ≤ t.length) (tail : List Byte) :
    readRcon (t.take n ++ tail) i = readRcon t i := by
  have hprefix : i < (t.take n).length := by simp; omega
  simp only [readRcon, List.getElem?_append_left hprefix, List.getElem?_take_of_lt hi]

/-- Of the tables the key schedule reads SBOX and the first ten entries of RCON alone (R113, R114). -/
theorem expandRound_congr {T T' : Tables} (hsbox : T.sbox = T'.sbox)
    (hrcon : ∀ i < 10, readRcon T.rcon i = readRcon T'.rcon i) (r : Nat) (p : Block) :
    expandRound T r p = expandRound T' r p := by
  by_cases h : 1 ≤ r ∧ r ≤ 10
  · have hconst : readRcon T.rcon (r - 1) = readRcon T'.rcon (r - 1) := hrcon (r - 1) (by omega)
    simp only [expandRound, subWord, addRcon, hsbox, hconst]
  · rw [expandRound_of_not h, expandRound_of_not h]

theorem keyExpand_congr {T T' : Tables} (hsbox : T.sbox = T'.sbox)
    (hrcon : ∀ i < 10, readRcon T.rcon i = readRcon T'.rcon i) (key : Block) :
    keyExpand T key = keyExpand T' key := by
  simp only [keyExpand, expandInto, expandRound_congr hsbox hrcon]

/-- Settles O6: the ten constants are the doublings of 1, and the key schedule reads no others. -/
theorem rconDoublesAndTailIsUnread : Obligations.RconDoublesAndTailIsUnread := by
  unfold Obligations.RconDoublesAndTailIsUnread
  refine ⟨length_rcon, readRcon_eq_roundConstant (by decide), fun i hi => ?_, fun tail key => ?_⟩
  · exact ⟨roundConstant i, readRcon_eq_roundConstant (by omega), readRcon_eq_roundConstant (by omega)⟩
  · have hlen : 10 ≤ tables.rcon.length := by rw [length_rcon]; decide
    refine keyExpand_congr ?_ (fun i hi => ?_) key
    · rfl
    · exact readRcon_take_append hi hlen tail

end Sys2Proof.Proofs
end

section
/-! PROOFS. The statements of 30_encoding.md about the decoders: decoding undoes encoding and encoding undoes decoding (R70 to
R78, log 8). -/

namespace Sys2Proof.Proofs

open Sys2Proof.Machine

/-! ### Encoding, then decoding -/

/-- The length byte counts every payload of up to 255 bytes (R71). -/
theorem toNat_lengthByte {p : List Byte} (h : p.length ≤ 255) : (BitVec.ofNat 8 p.length).toNat = p.length := by
  rw [BitVec.toNat_ofNat, Nat.mod_eq_of_lt (by omega)]

/-- A whole command word is read by its code (R71, R73). -/
theorem decodeCmd_encodeCmd (c0 : Byte) {p : List Byte} (h : p.length ≤ 255) :
    decodeCmd (encodeCmd c0 p) = decodeCode c0 p :=
  decodeCmd_whole (toNat_lengthByte h).symm

@[simp] theorem label_of_append (hi label : BitVec 4) : (hi ++ label : Byte).extractLsb' 0 4 = label :=
  BitVec.extractLsb'_append_eq_right

@[simp] theorem operand_of_append (hi label : BitVec 4) : (hi ++ label : Byte).extractLsb' 4 4 = hi :=
  BitVec.extractLsb'_append_eq_left

/-- The operand of ARK and KEXP is read from bits 7:4 of the byte whose bits 3:0 hold the label (R78, log 8). -/
theorem decodeUop_ark (j : BitVec 4) : decodeUop [j ++ (0x1 : BitVec 4)] = .ok (.ark j) := by
  simp [decodeUop, roundOperand]

theorem decodeUop_kexp (r : BitVec 4) : decodeUop [r ++ (0x9 : BitVec 4)] = .ok (.kexp r) := by
  simp [decodeUop, roundOperand]

/-- The operand of KLD0 is the 16 bytes after its label byte (log 8). -/
theorem decodeUop_kld0 (key : Block) : decodeUop (0x08 :: bytesOfBlock key) = .ok (.kld0 key) := rfl

/-- Decoding undoes encoding. Only the operands of a command, of a round index and of a key need more than reading the table:
every other encoding is one or two bytes whose first is a number of R76 or R78. -/
theorem decode_encode {i : Instr} (h : i.wellFormed = true) : decode i.space (encode i) = .ok i := by
  cases i with
  | keyload p => exact decodeCmd_encodeCmd 0x01 (of_decide_eq_true h)
  | encrypt p => exact decodeCmd_encodeCmd 0x02 (of_decide_eq_true h)
  | decrypt p => exact decodeCmd_encodeCmd 0x03 (of_decide_eq_true h)
  | ark j => exact decodeUop_ark j
  | kexp r => exact decodeUop_kexp r
  | kld0 key => exact decodeUop_kld0 key
  | gfmul1 | gfmul2 | gfmul3 | gfmul9 | gfmul11 | gfmul13 | gfmul14 => rfl
  | sb | sr | mc | isr | isb | imc => rfl

/-- Settles O45, by the constructors of `Instr`. -/
theorem decodeEncodeAgree : Obligations.DecodeEncodeAgree := by
  unfold Obligations.DecodeEncodeAgree
  intro i hwf
  exact decode_encode hwf

/-! ### Decoding, then encoding -/

/-- A code byte that names a command is that command's code in the encoding (R73). -/
theorem encode_of_decodeCode {c0 : Byte} {p : List Byte} {i : Instr} (h : decodeCode c0 p = .ok i) :
    encode i = encodeCmd c0 p ∧ i.wellFormed = decide (payloadFits p) := by
  unfold decodeCode at h
  iterate 3
    split at h
    · next hc => cases h; exact ⟨by rw [hc]; rfl, rfl⟩
  cases h

/-- The extent check makes the length byte the payload's length, so the payload fits the length field (R71). -/
theorem encode_of_decodeCmd {bytes : List Byte} {i : Instr} (h : decodeCmd bytes = .ok i) :
    encode i = bytes ∧ i.wellFormed = true := by
  unfold decodeCmd at h
  split at h
  · next c0 len payload =>
    split at h
    · cases h
    split at h
    · cases h
    · have hlen : payload.length = len.toNat := by omega
      obtain ⟨hencode, hwf⟩ := encode_of_decodeCode h
      have hfits : payloadFits payload := by
        have := len.isLt
        unfold payloadFits
        omega
      refine ⟨?_, by rw [hwf, decide_eq_true hfits]⟩
      rw [hencode, encodeCmd, hlen, BitVec.ofNat_toNat, BitVec.setWidth_eq]
  · cases h

theorem encode_of_decodeGfsel {bytes : List Byte} {i : Instr} (h : decodeGfsel bytes = .ok i) :
    encode i = bytes ∧ i.wellFormed = true := by
  unfold decodeGfsel at h
  split at h
  · next n m =>
    iterate 7
      split at h
      · next hn => cases h; exact ⟨by rw [hn]; rfl, rfl⟩
    cases h
  · cases h

/-- The label's bits and the operand's bits are all of the byte (R78). -/
theorem append_of_halves {b : Byte} {hi label : BitVec 4} (hlabel : b.extractLsb' 0 4 = label)
    (hhi : b.extractLsb' 4 4 = hi) : hi ++ label = b := by
  have hwhole : b.extractLsb' 4 4 ++ b.extractLsb' 0 4 = b.extractLsb' 0 8 :=
    BitVec.extractLsb'_append_extractLsb'_eq_extractLsb' rfl
  rw [← hlabel, ← hhi, hwhole, BitVec.extractLsb'_eq_self]

/-- A label without operand is the byte of its encoding: bits 7:4 are compared with 0 and no byte may follow (log 8). -/
theorem encode_of_noOperand {b : Byte} {rest : List Byte} {label : BitVec 4} {i j : Instr}
    (hlabel : b.extractLsb' 0 4 = label) (h : noOperand (b.extractLsb' 4 4) rest i = .ok j)
    (hencode : encode i = [(0 : BitVec 4) ++ label]) : encode j = b :: rest := by
  obtain ⟨rfl, hhi, rfl⟩ := noOperand_ok h
  rw [hencode, append_of_halves hlabel hhi]

theorem encode_of_roundOperand {b : Byte} {rest : List Byte} {label : BitVec 4} {f : BitVec 4 → Instr} {j : Instr}
    (hlabel : b.extractLsb' 0 4 = label) (h : roundOperand (b.extractLsb' 4 4) rest f = .ok j)
    (hencode : ∀ r, encode (f r) = [r ++ label]) : encode j = b :: rest := by
  obtain ⟨rfl, rfl⟩ := roundOperand_ok h
  rw [hencode, append_of_halves hlabel rfl]

theorem encode_of_keyOperand {b : Byte} {rest : List Byte} {label : BitVec 4} {f : Block → Instr} {j : Instr}
    (hlabel : b.extractLsb' 0 4 = label) (h : keyOperand (b.extractLsb' 4 4) rest f = .ok j)
    (hencode : ∀ key, encode (f key) = ((0 : BitVec 4) ++ label) :: bytesOfBlock key) : encode j = b :: rest := by
  obtain ⟨key, rfl, hhi, hkey⟩ := keyOperand_ok h
  rw [hencode, append_of_halves hlabel hhi, bytesOfBlock_of_some hkey]

/-- Every operation of the internal spaces is well formed: only a command's payload can be too long. -/
theorem wellFormed_of_internal {i : Instr} (h : i.space ≠ .cmd) : i.wellFormed = true := by
  cases i with
  | keyload | encrypt | decrypt => exact absurd rfl h
  | _ => rfl

theorem encode_of_decodeUop {bytes : List Byte} {i : Instr} (h : decodeUop bytes = .ok i) : encode i = bytes := by
  cases bytes with
  | nil => cases h
  | cons b rest =>
    simp only [decodeUop] at h
    split at h
    · next hlabel => exact encode_of_roundOperand hlabel h fun _ => rfl
    iterate 6
      split at h
      · next hlabel => exact encode_of_noOperand hlabel h rfl
    split at h
    · next hlabel => exact encode_of_keyOperand hlabel h fun _ => rfl
    split at h
    · next hlabel => exact encode_of_roundOperand hlabel h fun _ => rfl
    · cases h

/-- Settles O46, a space at a time. -/
theorem encodeDecodeAgree : Obligations.EncodeDecodeAgree := by
  unfold Obligations.EncodeDecodeAgree
  intro sp bytes i h
  cases sp with
  | cmd => exact encode_of_decodeCmd h
  | gfsel => exact encode_of_decodeGfsel h
  | uop => exact ⟨encode_of_decodeUop h, wellFormed_of_internal (decode_space h ▸ nofun)⟩

end Sys2Proof.Proofs
end

section
/-! PROOFS. The statements of 30_encoding.md about the interface: the bytes of a response (R74), commands that arrive in pieces
(R71, R80), the step as `exec` of what is decoded (R70), and what reserved numbers do (R75, R77, R78). -/

namespace Sys2Proof.Proofs

open Sys2Proof.Machine

/-! ### Responses -/

/-- The high half of a response's code byte is zero, and OK is code 0 (R74). -/
theorem codeByte_ok : ((0 : BitVec 4) ++ respCode .ok : Byte) = 0x00 := by decide

/-- Settles O39: the layout and the codes are those of `responseBytes` and `respCode` as written. -/
theorem responseLayout : Obligations.ResponseLayout := by
  unfold Obligations.ResponseLayout
  exact ⟨fun _ => rfl, fun d => congrArg (· :: 0x10 :: bytesOfBlock d) codeByte_ok, rfl, rfl, rfl, rfl, rfl, rfl⟩

/-! ### Commands that arrive in pieces -/

/-- A command needs its code, its length byte and as many bytes as that counts, before anything else is looked at (R71, R80). -/
theorem decodeCmd_incomplete {bytes : List Byte}
    (h : bytes.length < 2 ∨ bytes.length < 2 + (bytes.getD 1 0).toNat) :
    decodeCmd bytes = .error .incomplete := by
  match bytes with
  | [] | [_] => rfl
  | _ :: len :: payload =>
    have hmissing : payload.length < len.toNat := by
      simp only [List.length_cons, List.getD_cons_succ, List.getD_cons_zero] at h
      omega
    exact if_pos hmissing

/-- Bytes that leave the command incomplete join the interface buffer, and that is all (R80). -/
theorem step_incomplete {s : State} {bytes : List Byte} {rest : List HostAct} (hseq : s.seq = [])
    (hinp : s.inp = .present bytes :: rest) (hdecode : decode .cmd (s.rx ++ bytes) = .error .incomplete) :
    step s = .next (takeBytes bytes rest s) := by
  simp only [step_present hseq hinp, stepCommand, takeBytes_rx, hdecode]

/-- Settles O40: too few bytes decode as incomplete, and the step then only takes them. -/
theorem partialCommandChangesNothing : Obligations.PartialCommandChangesNothing := by
  unfold Obligations.PartialCommandChangesNothing
  intro s bytes rest hseq hinp hmissing
  exact step_incomplete hseq hinp (decodeCmd_incomplete hmissing)

/-- A run sees its first state through that state's step alone. -/
theorem run_succ_congr {s t : State} (h : step s = step t) (n : Nat) : core.run (n + 1) s = core.run (n + 1) t := by
  have hstep : core.step s = core.step t := h
  simp only [Host.Core.run, hstep]

/-- Bytes taken one piece after the other are the bytes taken at once. -/
theorem takeBytes_takeBytes (front back : List Byte) (rest rest' : List HostAct) (s : State) :
    takeBytes back rest (takeBytes front rest' s) = takeBytes (front ++ back) rest s := by
  simp only [takeBytes, List.append_assoc]

/-- Settles O41: after the first step the buffer holds the front piece, so that the second step reads the same bytes as one
step over the whole. -/
theorem presentationInPieces : Obligations.PresentationInPieces := by
  unfold Obligations.PresentationInPieces
  intro s front back rest hseq hrx hmissing
  have hdecode : decode .cmd (s.rx ++ front) = .error .incomplete := by
    rw [hrx]
    exact decodeCmd_incomplete hmissing
  have hfront : step { s with inp := .present front :: .present back :: rest }
      = .next (takeBytes front (.present back :: rest) s) :=
    step_incomplete (s := { s with inp := .present front :: .present back :: rest }) hseq rfl hdecode
  have hback : step (takeBytes front (.present back :: rest) s)
      = step { s with inp := .present (front ++ back) :: rest } := by
    rw [step_present (s := takeBytes front _ s) hseq rfl, takeBytes_takeBytes,
      step_present (s := { s with inp := .present (front ++ back) :: rest }) hseq rfl]
    rfl
  rw [run_succ_of_next hfront]
  exact run_succ_congr hback 0

/-! ### One step, through the decoder -/

/-- An issued internal operation is taken off the list and run (R70, log 5). -/
theorem step_issued (s : State) (op : Issue) (rest : List Issue) :
    step { s with seq := op :: rest } = stepIssue op { s with seq := rest } := rfl

theorem stepIssue_of_ok {op : Issue} {i : Instr} (h : decode (issueSpace op) (issueBytes op) = .ok i) (s : State) :
    stepIssue op s = exec i s := by
  simp only [stepIssue, h]

theorem stepIssue_of_unsupported {op : Issue} {n : Byte}
    (h : decode (issueSpace op) (issueBytes op) = .error (.unsupportedMultiplicand n)) (s : State) :
    stepIssue op s = .next (takeFatal .multiplicand s) := by
  simp only [stepIssue, h]

theorem stepIssue_of_unknownLabel {op : Issue} {label : BitVec 4}
    (h : decode (issueSpace op) (issueBytes op) = .error (.unknownLabel label)) (s : State) :
    stepIssue op s = .fault (.unknownLabel label) := by
  simp only [stepIssue, h]

/-- Settles O49, a side of the interface at a time. -/
theorem stepRunsDecoded : Obligations.StepRunsDecoded := by
  unfold Obligations.StepRunsDecoded
  constructor
  · intro s bytes rest i hdecode
    exact step_command (s := s.presenting bytes rest) rfl rfl hdecode
  · intro s op rest i hdecode
    rw [step_issued, stepIssue_of_ok hdecode]

/-- Settles O47, word by word. -/
theorem specWordsDecode : Obligations.SpecWordsDecode := by
  unfold Obligations.SpecWordsDecode
  exact ⟨rfl, rfl, rfl, rfl, rfl, rfl, rfl, rfl⟩

/-! ### Reserved numbers -/

/-- Each comparison of the decoder is with a number of GFSET (R76, R77). -/
theorem decodeGfsel_unsupported {n : Byte} (h : n ∉ gfSet) (m : Byte) :
    decodeGfsel [n, m] = .error (.unsupportedMultiplicand n) := by
  simp only [gfSet, List.mem_cons, List.not_mem_nil, or_false, not_or] at h
  simp only [decodeGfsel, h, if_false]

/-- The fatal error of a select leaves what `abortedWith` says, whatever else was issued (R98, R216). -/
theorem takeFatal_abortedWith (cause : Cause) (s : State) (rest : List Issue) :
    abortedWith (causeCode cause) s (takeFatal cause { s with seq := rest }) :=
  ⟨Config.freeBlock s.draws, s.draws + 1, rfl⟩

/-- The labels that name nothing are none of the nine that name an operation (R78). -/
theorem decodeUop_unknownLabel {b : Byte}
    (h : b.extractLsb' 0 4 ∈ ([0x0, 0xa, 0xb, 0xc, 0xd, 0xe, 0xf] : List (BitVec 4))) (operand : List Byte) :
    decodeUop (b :: operand) = .error (.unknownLabel (b.extractLsb' 0 4)) := by
  have hnone : ∀ label ∈ ([0x0, 0xa, 0xb, 0xc, 0xd, 0xe, 0xf] : List (BitVec 4)),
      label ≠ 0x1 ∧ label ≠ 0x2 ∧ label ≠ 0x3 ∧ label ≠ 0x4 ∧ label ≠ 0x5 ∧ label ≠ 0x6 ∧ label ≠ 0x7 ∧
        label ≠ 0x8 ∧ label ≠ 0x9 := by decide
  simp only [decodeUop, hnone _ h, if_false]

/-- Settles O48, a space at a time. -/
theorem reservedEncodingsRejected : Obligations.ReservedEncodingsRejected := by
  unfold Obligations.ReservedEncodingsRejected
  refine ⟨fun c0 p hfits hcode => ?_, fun n m hn => ?_, fun b operand hlabel => ?_⟩
  · rcases decodeCode_cases c0 p with ⟨_, -, hlegal⟩ | ⟨hillegal, -⟩
    · exact absurd hlegal hcode
    · exact (decodeCmd_encodeCmd c0 hfits).trans hillegal
  · have hdecode := decodeGfsel_unsupported hn m
    refine ⟨hdecode, fun s rest => ⟨_, ?_, takeFatal_abortedWith .multiplicand s rest⟩⟩
    rw [step_issued, stepIssue_of_unsupported (op := .gfsel [n, m]) hdecode]
  · have hdecode := decodeUop_unknownLabel hlabel operand
    refine ⟨hdecode, fun s rest => ?_⟩
    rw [step_issued, stepIssue_of_unknownLabel (op := .uop (b :: operand)) hdecode]

end Sys2Proof.Proofs
end

section
/-! PROOFS. The statements of 30_encoding.md about the stage schedules: run one step each, the micro-operations of a command do
what its transform does in one go (R79, R116, R134, R153, logs 5 and 6). -/

namespace Sys2Proof.Proofs

open Sys2Proof.Machine

/-! ### Issued operations, one step each -/

/-- The step on an issued operation runs that operation: its issued bytes are its encoding (R70). -/
theorem step_issueOf {i : Instr} (hi : i.space ≠ .cmd) (s : State) (rest : List Issue) :
    step { s with seq := issueOf i :: rest } = exec i { s with seq := rest } := by
  have hspace : issueSpace (issueOf i) = i.space := by
    cases i with
    | keyload | encrypt | decrypt => exact absurd rfl hi
    | _ => rfl
  have hbytes : issueBytes (issueOf i) = encode i := by
    unfold issueOf
    split <;> rfl
  have hdecode : decode (issueSpace (issueOf i)) (issueBytes (issueOf i)) = .ok i := by
    rw [hspace, hbytes, decode_encode (wellFormed_of_internal hi)]
  rw [step_issued, stepIssue_of_ok hdecode]

/-- A run that goes on for `m` steps goes on from where it then is. -/
theorem run_add_of_next {m : Nat} {s t : State} (h : core.run m s = .next t) (n : Nat) :
    core.run (m + n) s = core.run n t := by
  induction m generalizing s with
  | zero =>
    obtain rfl : s = t := Host.Outcome.next.inj h
    rw [Nat.zero_add]
  | succ m ih =>
    rw [Nat.succ_add]
    simp only [Host.Core.run] at h ⊢
    split at h
    · exact ih h
    · cases h
    · cases h

/-- The operations `is`, issued and run one step each, do what `f` does to the part of the state that `put` writes, and change
nothing else. -/
def Performs {α : Type} (put : α → State) (is : List Instr) (f : α → Raise α) : Prop :=
  ∀ (a d : α) (rest : List Issue), f a = .ok d →
    core.run is.length { put a with seq := is.map issueOf ++ rest } = .next { put d with seq := rest }

section
variable {α : Type} {put : α → State}

theorem Performs.single {i : Instr} {f : α → Raise α} (hi : i.space ≠ .cmd)
    (hexec : ∀ a d rest, f a = .ok d → exec i { put a with seq := rest } = .next { put d with seq := rest }) :
    Performs put [i] f := by
  intro a d rest hd
  exact run_succ_of_next ((step_issueOf hi (put a) rest).trans (hexec a d rest hd)) 0

theorem Performs.nil : Performs put [] .ok := by
  intro a d rest hd
  cases hd
  rfl

/-- One schedule after the other does one transform after the other. -/
theorem Performs.append {is js : List Instr} {f g : α → Raise α} (hf : Performs put is f) (hg : Performs put js g) :
    Performs put (is ++ js) (fun a => f a >>= g) := by
  intro a d rest hd
  match hfirst : f a with
  | .error _ =>
    simp only [hfirst] at hd
    cases hd
  | .ok b =>
    simp only [hfirst] at hd
    rw [List.length_append, List.map_append, List.append_assoc, run_add_of_next (hf a b _ hfirst)]
    exact hg b d rest hd

/-- A schedule issued alone leaves nothing issued. -/
theorem Performs.run {is : List Instr} {f : α → Raise α} (h : Performs put is f) {a d : α} (hd : f a = .ok d) :
    core.run is.length { put a with seq := is.map issueOf } = .next { put d with seq := [] } := by
  have hrun := h a d [] hd
  rwa [List.append_nil] at hrun

/-- The schedules of the rounds, one after the other, do the loop over the rounds. -/
theorem Performs.flatMap {β : Type} {l : List β} {body : β → List Instr} {f : α → β → Raise α}
    (h : ∀ r ∈ l, Performs put (body r) (f · r)) : Performs put (l.flatMap body) (l.foldlM f) := by
  induction l with
  | nil => exact .nil
  | cons r l ih =>
    have hround := h r (by simp)
    have hrounds := ih fun r' hr' => h r' (by simp [hr'])
    exact hround.append hrounds

end

/-! ### The block transforms -/

/-- `s` with another working block. -/
def withSt (s : State) (b : Block) : State := { s with st := b }

theorem updateSt_of_ok {f : Block → Raise Block} {s : State} {b : Block} (h : f s.st = .ok b) :
    updateSt f s = { s with st := b } := by
  simp only [updateSt, h]

section
variable (s : State)

/-- A micro-operation that is a step of ST does that step. -/
theorem performs_of_updateSt {i : Instr} {f : Block → Raise Block} (hi : i.space ≠ .cmd)
    (hexec : ∀ t : State, t.rk = s.rk → exec i t = .next (updateSt f t)) : Performs (withSt s) [i] f := by
  refine .single hi fun b d rest hd => ?_
  rw [hexec]
  · rw [updateSt_of_ok hd]
    rfl
  · rfl

theorem performs_ark (j : BitVec 4) : Performs (withSt s) [.ark j] (addRoundKey s.rk j.toNat) :=
  performs_of_updateSt s nofun fun t ht => by rw [← ht]; rfl

theorem performs_sb : Performs (withSt s) [.sb] (subBytes tables) := performs_of_updateSt s nofun fun _ _ => rfl

theorem performs_sr : Performs (withSt s) [.sr] (fun b => .ok (shiftRows b)) :=
  performs_of_updateSt s nofun fun _ _ => rfl

theorem performs_mc : Performs (withSt s) [.mc] (mixColumns tables) := performs_of_updateSt s nofun fun _ _ => rfl

theorem performs_isr : Performs (withSt s) [.isr] (fun b => .ok (invShiftRows b)) :=
  performs_of_updateSt s nofun fun _ _ => rfl

theorem performs_isb : Performs (withSt s) [.isb] (invSubBytes tables) :=
  performs_of_updateSt s nofun fun _ _ => rfl

theorem performs_imc : Performs (withSt s) [.imc] (invMixColumns tables) :=
  performs_of_updateSt s nofun fun _ _ => rfl

/-- A round index up to 10 fits the 4 bits of a label's operand (R26). -/
theorem toNat_roundIndex {r : Nat} (h : r ≤ 10) : (BitVec.ofNat 4 r).toNat = r := by
  rw [BitVec.toNat_ofNat, Nat.mod_eq_of_lt (by omega)]

/-- Four micro-operations are the body of stages 1 to 9 of ENC_BLOCK (R134). -/
theorem performs_encRound {r : Nat} (h : r ≤ 10) :
    Performs (withSt s) [.sb, .sr, .mc, .ark (BitVec.ofNat 4 r)] (encRound tables s.rk · r) := by
  have hark := performs_ark s (BitVec.ofNat 4 r)
  rw [toNat_roundIndex h] at hark
  exact (performs_sb s).append ((performs_sr s).append ((performs_mc s).append hark))

/-- Four micro-operations are the body of stages 9 to 1 of DEC_BLOCK (R153). -/
theorem performs_decRound {r : Nat} (h : r ≤ 10) :
    Performs (withSt s) [.ark (BitVec.ofNat 4 r), .imc, .isr, .isb] (decRound tables s.rk · r) := by
  have hark := performs_ark s (BitVec.ofNat 4 r)
  rw [toNat_roundIndex h] at hark
  exact hark.append ((performs_imc s).append ((performs_isr s).append (performs_isb s)))

theorem performs_encSchedule : Performs (withSt s) encSchedule (encBlock tables s.rk) := by
  have hrounds : Performs (withSt s) _ ((roundsTo 9).foldlM (encRound tables s.rk)) :=
    .flatMap fun r hr => performs_encRound s (by have := mem_roundsTo hr; omega)
  have hlast := (performs_sb s).append ((performs_sr s).append (performs_ark s 10))
  exact (performs_ark s 0).append (hrounds.append hlast)

theorem performs_decSchedule : Performs (withSt s) decSchedule (decBlock tables s.rk) := by
  have hfirst := (performs_ark s 10).append ((performs_isr s).append (performs_isb s))
  have hrounds : Performs (withSt s) _ ((roundsTo 9).reverse.foldlM (decRound tables s.rk)) :=
    .flatMap fun r hr => performs_decRound s (by have := mem_roundsTo (List.mem_reverse.mp hr); omega)
  exact hfirst.append (hrounds.append (performs_ark s 0))

end

/-- Settles O22: the schedule does ENC_BLOCK, which gives a block. -/
theorem encryptScheduleIsEncBlock : Obligations.EncryptScheduleIsEncBlock := by
  unfold Obligations.EncryptScheduleIsEncBlock
  refine ⟨rfl, fun s => ?_⟩
  obtain ⟨d, hd⟩ := encBlock_total s.rk s.st
  exact ⟨d, hd, (performs_encSchedule s).run hd⟩

/-- Settles O23: the schedule does DEC_BLOCK, which gives a block. -/
theorem decryptScheduleIsDecBlock : Obligations.DecryptScheduleIsDecBlock := by
  unfold Obligations.DecryptScheduleIsDecBlock
  refine ⟨rfl, fun s => ?_⟩
  obtain ⟨d, hd⟩ := decBlock_total s.rk s.st
  exact ⟨d, hd, (performs_decSchedule s).run hd⟩

/-! ### The key schedule -/

/-- `s` with another schedule under construction. -/
def withRkn (s : State) (rkn : RoundKeys) : State := { s with rkn := rkn }

theorem updateRkn_of_ok {f : RoundKeys → Raise RoundKeys} {s : State} {rkn : RoundKeys} (h : f s.rkn = .ok rkn) :
    updateRkn f s = { s with rkn := rkn } := by
  simp only [updateRkn, h]

/-- KEYEXPAND's rounds, built in registers that held `rkn` (R116). -/
def expandFrom (key : Block) (rkn : RoundKeys) : Raise RoundKeys :=
  loadInto key rkn >>= (roundsTo Config.rounds).foldlM fun rkn r => expandInto tables r rkn

/-- A micro-operation that is a step of RKn does that step. -/
theorem performs_of_updateRkn (s : State) {i : Instr} {f : RoundKeys → Raise RoundKeys} (hi : i.space ≠ .cmd)
    (hexec : ∀ t : State, exec i t = .next (updateRkn f t)) : Performs (withRkn s) [i] f := by
  refine .single hi fun rkn d rest hd => ?_
  rw [hexec, updateRkn_of_ok hd]
  rfl

theorem performs_kld0 (s : State) (key : Block) : Performs (withRkn s) [.kld0 key] (loadInto key) :=
  performs_of_updateRkn s nofun fun _ => rfl

theorem performs_kexp (s : State) {r : Nat} (h : r ≤ 10) :
    Performs (withRkn s) [.kexp (BitVec.ofNat 4 r)] (expandInto tables r) := by
  have hkexp : Performs (withRkn s) [.kexp (BitVec.ofNat 4 r)] (expandInto tables (BitVec.ofNat 4 r).toNat) :=
    performs_of_updateRkn s nofun fun _ => rfl
  rwa [toNat_roundIndex h] at hkexp

theorem performs_keySchedule (s : State) (key : Block) :
    Performs (withRkn s) (keySchedule key) (expandFrom key) := by
  have hrounds : Performs (withRkn s) ((roundsTo 10).flatMap fun r => [.kexp (BitVec.ofNat 4 r)])
      ((roundsTo Config.rounds).foldlM fun rkn r => expandInto tables r rkn) :=
    .flatMap fun r hr => performs_kexp s (by have := mem_roundsTo hr; omega)
  exact (performs_kld0 s key).append hrounds

/-- The registers below `n` hold the same in both. -/
def agreeBelow (n : Nat) (a b : RoundKeys) : Prop := ∀ i (_ : i < 11), i < n → a[i] = b[i]

/-- Writing the same key into register `n` of both makes them agree one register further. -/
theorem agreeBelow_set {n : Nat} {a b : RoundKeys} (h : agreeBelow n a b) (hn : n < 11) (k : Block) :
    agreeBelow (n + 1) (a.set n k) (b.set n k) := by
  intro i hi hin
  by_cases hni : n = i
  · subst hni
    simp
  · rw [Vector.getElem_set_ne hn hi hni, Vector.getElem_set_ne hn hi hni]
    exact h i hi (by omega)

/-- KEXP(r) reads register `r - 1` alone and writes register `r` alone (R115). -/
theorem expandInto_agree {r : Nat} (h1 : 1 ≤ r) (h2 : r ≤ 10) {a b : RoundKeys} (h : agreeBelow r a b) :
    ∃ a' b', expandInto tables r a = .ok a' ∧ expandInto tables r b = .ok b' ∧ agreeBelow (r + 1) a' b' := by
  obtain ⟨k, hk, ha⟩ := expandInto_total h1 h2 a
  obtain ⟨k', hk', hb⟩ := expandInto_total h1 h2 b
  obtain rfl : k = k' := by
    rw [h (r - 1) (by omega) (by omega), hk'] at hk
    exact (Except.ok.inj hk).symm
  exact ⟨_, _, ha, hb, agreeBelow_set h (by omega) k⟩

/-- Rounds `r` to 10 leave the same schedule in registers that agree below `r`. -/
theorem expandRounds_agree {r n : Nat} (h1 : 1 ≤ r) (h2 : r + n = 11) {a b : RoundKeys} (h : agreeBelow r a b) :
    (List.range' r n).foldlM (fun rkn r => expandInto tables r rkn) a
      = (List.range' r n).foldlM (fun rkn r => expandInto tables r rkn) b := by
  induction n generalizing r a b with
  | zero =>
    obtain rfl : a = b := Vector.ext fun i hi => h i hi (by omega)
    rfl
  | succ n ih =>
    obtain ⟨a', b', ha, hb, h'⟩ := expandInto_agree h1 (by omega) h
    rw [List.range'_succ, List.foldlM_cons, List.foldlM_cons, ha, hb]
    exact ih (by omega) (by omega) h'

/-- What the registers held before makes no difference to KEYEXPAND (R116). -/
theorem expandFrom_eq_keyExpand (key : Block) (rkn : RoundKeys) : expandFrom key rkn = keyExpand tables key := by
  have hload : agreeBelow 1 (rkn.set 0 key) ((Vector.replicate 11 key).set 0 key) :=
    agreeBelow_set (n := 0) nofun (by omega) key
  exact expandRounds_agree (by omega) rfl hload

/-- Settles O24: the schedule does KEYEXPAND's rounds in RKn, whatever RKn held. -/
theorem keySchedulingIsKeyExpand : Obligations.KeySchedulingIsKeyExpand := by
  unfold Obligations.KeySchedulingIsKeyExpand
  intro s key
  obtain ⟨rk, hrk⟩ := keyExpand_total key
  have hfrom : expandFrom key s.rkn = .ok rk := (expandFrom_eq_keyExpand key s.rkn).trans hrk
  exact ⟨rfl, rk, hrk, (performs_keySchedule s key).run hfrom⟩

end Sys2Proof.Proofs
end

section
/-! PROOFS. The statements of 40_gf_multiply.md about values: the product is the multiplication of a field (R99), the multiplier
is that product for every supported multiplicand (R91 to R97, R100), and from both the laws of the Galois tables (R102). -/

namespace Sys2Proof.Proofs

open Sys2Proof.Machine

/-! ### `xtime` -/

/-- `a` where the bit is set, else 0: a term of the loop of R99. -/
def mask (bit : Bool) (a : Byte) : Byte := if bit then a else 0

theorem mask_xor (bit : Bool) (a b : Byte) : mask bit (a ^^^ b) = mask bit a ^^^ mask bit b := by
  cases bit <;> simp [mask]

theorem mask_bit_xor (bit bit' : Bool) (a : Byte) : mask (bit ^^ bit') a = mask bit a ^^^ mask bit' a := by
  cases bit <;> cases bit' <;> simp [mask]

/-- `xtime` shifts, and reduces by the low byte of 0x11b where bit 7 falls out (R99). -/
theorem xtime_eq (a : Byte) : xtime a = (a <<< 1) ^^^ mask a.msb 0x1b := by
  revert a; decide +kernel

theorem xtime_xor (a b : Byte) : xtime (a ^^^ b) = xtime a ^^^ xtime b := by
  simp only [xtime_eq, BitVec.shiftLeft_xor_distrib, BitVec.msb_xor, mask_bit_xor]
  ac_rfl

theorem xtime_zero : xtime 0 = 0 := by decide

theorem xtime_mask (bit : Bool) (a : Byte) : xtime (mask bit a) = mask bit (xtime a) := by
  cases bit
  · exact xtime_zero
  · rfl

/-- Horner's step: `a` is its lowest bit and `x` times the bits above. -/
theorem eq_xtime_shift_xor_bit (a : Byte) : a = xtime (a >>> 1) ^^^ (a &&& 1) := by
  revert a; decide +kernel

theorem and_one_cases (a : Byte) : a &&& 1 = 0 ∨ a &&& 1 = 1 := by
  revert a; decide +kernel

/-- Every byte is made from 0 and 1 by `xtime` and xor. -/
theorem byte_induction {P : Byte → Prop} (zero : P 0) (one : P 1) (double : ∀ a, P a → P (xtime a))
    (xor : ∀ a b, P a → P b → P (a ^^^ b)) (a : Byte) : P a := by
  by_cases h : a = 0
  · exact h ▸ zero
  · have hpos : a.toNat ≠ 0 := fun h0 => h (BitVec.eq_of_toNat_eq h0)
    have hlt : (a >>> 1).toNat < a.toNat := by
      rw [BitVec.toNat_ushiftRight, Nat.shiftRight_one]
      omega
    have hhigh : P (xtime (a >>> 1)) := double _ (byte_induction zero one double xor (a >>> 1))
    have hlow : P (a &&& 1) := by
      rcases and_one_cases a with h0 | h1
      · rwa [h0]
      · rwa [h1]
    rw [eq_xtime_shift_xor_bit a]
    exact xor _ _ hhigh hlow
termination_by a.toNat

/-! ### The product, by the loop of R99 -/

theorem gfLoop_succ (k : Nat) (a b p : Byte) :
    gfLoop (k + 1) a b p = gfLoop k (xtime a) b (p ^^^ mask (b.getLsbD (7 - k)) a) := by
  unfold mask
  split <;> simp [gfLoop, *]

theorem gfLoop_xor_left (k : Nat) (a a' b p p' : Byte) :
    gfLoop k (a ^^^ a') b (p ^^^ p') = gfLoop k a b p ^^^ gfLoop k a' b p' := by
  induction k generalizing a a' p p' with
  | zero => rfl
  | succ k ih =>
    simp only [gfLoop_succ, ← ih, xtime_xor, mask_xor]
    congr 1; ac_rfl

theorem gfLoop_xor_right (k : Nat) (a b b' p p' : Byte) :
    gfLoop k a (b ^^^ b') (p ^^^ p') = gfLoop k a b p ^^^ gfLoop k a b' p' := by
  induction k generalizing a p p' with
  | zero => rfl
  | succ k ih =>
    simp only [gfLoop_succ, ← ih, BitVec.getLsbD_xor, mask_bit_xor]
    congr 1; ac_rfl

theorem gfLoop_xtime (k : Nat) (a b p : Byte) : gfLoop k (xtime a) b (xtime p) = xtime (gfLoop k a b p) := by
  induction k generalizing a p with
  | zero => rfl
  | succ k ih => simp only [gfLoop_succ, ← ih, xtime_xor, xtime_mask]

theorem gfProduct_xor_left (a a' b : Byte) : gfProduct (a ^^^ a') b = gfProduct a b ^^^ gfProduct a' b :=
  gfLoop_xor_left 8 a a' b 0 0

theorem gfProduct_xor_right (a b b' : Byte) : gfProduct a (b ^^^ b') = gfProduct a b ^^^ gfProduct a b' :=
  gfLoop_xor_right 8 a b b' 0 0

theorem gfProduct_xtime_left (a b : Byte) : gfProduct (xtime a) b = xtime (gfProduct a b) :=
  gfLoop_xtime 8 a b 0

theorem gfProduct_zero_left (b : Byte) : gfProduct 0 b = 0 := by
  simpa using gfProduct_xor_left 0 0 b

theorem gfProduct_zero_right (a : Byte) : gfProduct a 0 = 0 := by
  simpa using gfProduct_xor_right a 0 0

theorem gfProduct_one_left (b : Byte) : gfProduct 1 b = b := by
  revert b; decide +kernel

theorem gfProduct_one_right (a : Byte) : gfProduct a 1 = a := by
  revert a; decide +kernel

/-! ### The field -/

theorem gfProduct_xtime_right (a b : Byte) : gfProduct a (xtime b) = xtime (gfProduct a b) := by
  induction a using byte_induction with
  | zero => simp only [gfProduct_zero_left, xtime_zero]
  | one => simp only [gfProduct_one_left]
  | double a ih => rw [gfProduct_xtime_left, ih, gfProduct_xtime_left]
  | xor a a' ih ih' => rw [gfProduct_xor_left, ih, ih', gfProduct_xor_left, xtime_xor]

theorem gfProduct_comm (a b : Byte) : gfProduct a b = gfProduct b a := by
  induction a using byte_induction with
  | zero => rw [gfProduct_zero_left, gfProduct_zero_right]
  | one => rw [gfProduct_one_left, gfProduct_one_right]
  | double a ih => rw [gfProduct_xtime_left, ih, gfProduct_xtime_right]
  | xor a a' ih ih' => rw [gfProduct_xor_left, ih, ih', gfProduct_xor_right]

theorem gfProduct_assoc (a b c : Byte) : gfProduct (gfProduct a b) c = gfProduct a (gfProduct b c) := by
  induction a using byte_induction with
  | zero => simp only [gfProduct_zero_left]
  | one => simp only [gfProduct_one_left]
  | double a ih => simp only [gfProduct_xtime_left, ih]
  | xor a a' ih ih' => simp only [gfProduct_xor_left, ih, ih']

/-- Settles O7: the product is bilinear over xor and commutes with `xtime`, and every byte is made by these from 0 and 1. -/
theorem productIsFieldMultiplication : Obligations.ProductIsFieldMultiplication := by
  unfold Obligations.ProductIsFieldMultiplication
  exact ⟨gfProduct_comm, gfProduct_assoc, gfProduct_xor_right,
    fun a => ⟨gfProduct_one_right a, gfProduct_zero_right a⟩, fun a ha => ⟨sboxInverse a, gfProduct_sboxInverse ha⟩⟩

/-- Multiplication by a nonzero byte is a bijection, since the byte has an inverse. -/
theorem gfProduct_existsUnique {n : Byte} (hn : n ≠ 0) (v : Byte) : ∃! m, gfProduct n m = v := by
  have hinv : gfProduct (sboxInverse n) n = 1 := by rw [gfProduct_comm, gfProduct_sboxInverse hn]
  refine ⟨gfProduct (sboxInverse n) v, ?_, fun m hm => ?_⟩
  · change gfProduct n (gfProduct (sboxInverse n) v) = v
    rw [← gfProduct_assoc, gfProduct_sboxInverse hn, gfProduct_one_left]
  · rw [← hm, ← gfProduct_assoc, hinv, gfProduct_one_left]

/-! ### The multiplier

Each supported multiplicand as a polynomial in `x`, that is, in `xtime`: once for the product, once for the lookup. -/

theorem gfProduct_two (m : Byte) : gfProduct 0x02 m = xtime m := by
  rw [show (0x02 : Byte) = xtime 1 by decide, gfProduct_xtime_left, gfProduct_one_left]

theorem gfProduct_three (m : Byte) : gfProduct 0x03 m = xtime m ^^^ m := by
  rw [show (0x03 : Byte) = 0x02 ^^^ 0x01 by decide, gfProduct_xor_left, gfProduct_two, gfProduct_one_left]

theorem gfProduct_four (m : Byte) : gfProduct 0x04 m = xtime (xtime m) := by
  rw [show (0x04 : Byte) = xtime 0x02 by decide, gfProduct_xtime_left, gfProduct_two]

theorem gfProduct_eight (m : Byte) : gfProduct 0x08 m = xtime (xtime (xtime m)) := by
  rw [show (0x08 : Byte) = xtime 0x04 by decide, gfProduct_xtime_left, gfProduct_four]

theorem gfProduct_nine (m : Byte) : gfProduct 0x09 m = xtime (xtime (xtime m)) ^^^ m := by
  rw [show (0x09 : Byte) = 0x08 ^^^ 0x01 by decide, gfProduct_xor_left, gfProduct_eight, gfProduct_one_left]

theorem gfProduct_eleven (m : Byte) : gfProduct 0x0b m = xtime (xtime (xtime m)) ^^^ xtime m ^^^ m := by
  rw [show (0x0b : Byte) = 0x08 ^^^ 0x02 ^^^ 0x01 by decide]
  simp only [gfProduct_xor_left, gfProduct_eight, gfProduct_two, gfProduct_one_left]

theorem gfProduct_thirteen (m : Byte) :
    gfProduct 0x0d m = xtime (xtime (xtime m)) ^^^ xtime (xtime m) ^^^ m := by
  rw [show (0x0d : Byte) = 0x08 ^^^ 0x04 ^^^ 0x01 by decide]
  simp only [gfProduct_xor_left, gfProduct_eight, gfProduct_four, gfProduct_one_left]

theorem gfProduct_fourteen (m : Byte) :
    gfProduct 0x0e m = xtime (xtime (xtime m)) ^^^ xtime (xtime m) ^^^ xtime m := by
  rw [show (0x0e : Byte) = 0x08 ^^^ 0x04 ^^^ 0x02 by decide]
  simp only [gfProduct_xor_left, gfProduct_eight, gfProduct_four, gfProduct_two]

/-- The six Galois tables with their multiplicands (R53 to R58). -/
def galoisTables : List (Rows × Byte) :=
  [(tables.gm2, 2), (tables.gm3, 3), (tables.gm9, 9), (tables.gm11, 11), (tables.gm13, 13), (tables.gm14, 14)]

/-- A Galois table's entry is the product with the table's multiplicand (R100). -/
theorem readTable_galois {p : Rows × Byte} (hp : p ∈ galoisTables) (m : Byte) :
    readTable p.1 m.toNat = .ok (gfProduct p.2 m) := by
  simp only [galoisTables, List.mem_cons, List.not_mem_nil, or_false] at hp
  rcases hp with rfl | rfl | rfl | rfl | rfl | rfl
  · rw [readTable_gm2, gfProduct_two]
  · rw [readTable_gm3, gfProduct_three]
  · rw [readTable_gm9, gfProduct_nine]
  · rw [readTable_gm11, gfProduct_eleven]
    congr 1; ac_rfl
  · rw [readTable_gm13, gfProduct_thirteen]
    congr 1; ac_rfl
  · rw [readTable_gm14, gfProduct_fourteen]

/-- For the multiplicand of a Galois table, GFMUL is the lookup in that table (R92 to R97). -/
theorem gfmul_galois {p : Rows × Byte} (hp : p ∈ galoisTables) (m : Byte) :
    gfmul tables p.2 m = readTable p.1 m.toNat := by
  simp only [galoisTables, List.mem_cons, List.not_mem_nil, or_false] at hp
  rcases hp with rfl | rfl | rfl | rfl | rfl | rfl <;> rfl

/-- GFSET is the bypass and the multiplicands of the Galois tables. -/
theorem gfSet_cases {n : Byte} (hn : n ∈ gfSet) : n = 0x01 ∨ ∃ p ∈ galoisTables, p.2 = n := by
  rcases List.mem_cons.mp hn with h1 | htable
  · exact .inl h1
  · have htable : n ∈ galoisTables.map Prod.snd := htable
    exact .inr (List.mem_map.mp htable)

theorem gfmul_eq_product {n : Byte} (hn : n ∈ gfSet) (m : Byte) : gfmul tables n m = .ok (gfProduct n m) := by
  rcases gfSet_cases hn with rfl | ⟨p, hp, rfl⟩
  · rw [gfProduct_one_left]
    rfl
  · rw [gfmul_galois hp, readTable_galois hp]

/-- Settles O8: the bypass multiplies by 1, and every other lookup is in a Galois table. -/
theorem multiplierIsProduct : Obligations.MultiplierIsProduct := by
  unfold Obligations.MultiplierIsProduct
  exact fun n hn m => gfmul_eq_product hn m

/-- A select of a supported multiplicand leaves the product and changes nothing else (R90). -/
theorem exec_select {i : Instr} {n m b : Byte} {s : State}
    (hexec : exec i s = .next (updateGf (gfmul tables n m) s)) (hn : n ∈ gfSet) (hb : gfProduct n m = b) :
    exec i s = .next { s with gfOut := b } := by
  rw [hexec, gfmul_eq_product hn, hb]
  rfl

/-- Settles O10: each select is GFMUL of its multiplicand, whose product is the polynomial the rule gives. -/
theorem multiplierSelectsComplete : Obligations.MultiplierSelectsComplete := by
  unfold Obligations.MultiplierSelectsComplete
  intro s m
  exact ⟨exec_select rfl (by decide) (gfProduct_one_left m), exec_select rfl (by decide) (gfProduct_two m),
    exec_select rfl (by decide) (gfProduct_three m), exec_select rfl (by decide) (gfProduct_nine m),
    exec_select rfl (by decide) (gfProduct_eleven m), exec_select rfl (by decide) (gfProduct_thirteen m),
    exec_select rfl (by decide) (gfProduct_fourteen m)⟩

/-! ### The laws of the Galois tables -/

theorem galoisTables_nonzero : ∀ p ∈ galoisTables, p.2 ≠ 0 := by
  simp [galoisTables]

/-- Each value stands at exactly one index of a Galois table (R102). -/
theorem readTable_galois_existsUnique {p : Rows × Byte} (hp : p ∈ galoisTables) (v : Byte) :
    ∃! m : Byte, readTable p.1 m.toNat = .ok v := by
  simp only [readTable_galois hp, Except.ok.injEq]
  exact gfProduct_existsUnique (galoisTables_nonzero p hp) v

/-- Settles O4: the relations from the tables' expressions in `xtime`, the rest from the laws of the product. -/
theorem galoisTableLaws : Obligations.GaloisTableLaws := by
  unfold Obligations.GaloisTableLaws
  refine ⟨fun m => ?_, fun p (hp : p ∈ galoisTables) =>
    ⟨?_, ?_, readTable_galois_existsUnique hp, fun a b => ?_⟩⟩
  · refine ⟨_, _, _, _, _, readTable_gm2 m, readTable_gm2 _, readTable_gm2 _, readTable_gm3 m, readTable_gm9 m,
      readTable_gm11 m, readTable_gm13 m, ?_, ?_⟩
    · rw [BitVec.xor_comm, ← BitVec.xor_assoc, BitVec.xor_self, BitVec.zero_xor]
    · rw [readTable_gm14]
      congr 1; ac_rfl
  · exact (readTable_galois hp 0).trans (by rw [gfProduct_zero_right])
  · exact (readTable_galois hp 1).trans (by rw [gfProduct_one_right])
  · exact ⟨_, _, readTable_galois hp a, readTable_galois hp b, by rw [readTable_galois hp, gfProduct_xor_right]⟩

end Sys2Proof.Proofs
end

section
/-! PROOFS. The statements of 40_gf_multiply.md about errors: an unsupported multiplicand ends its command with the fatal error
(R98), the corrupted matrix of program PR5 does so in every ENCRYPT, and under the printed tables no host action leads to a
fatal error (R101, R218). -/

namespace Sys2Proof.Proofs

open Sys2Proof.Machine

/-! ### No fatal error under the printed tables -/

/-- A command neither issues internal operations nor sets FATAL: of its effects only the fatal error would, and that one belongs
to internal operations. -/
theorem execEffect_keeps_healthy {i : Instr} {s t : State} (hi : i.space = .cmd) (h : s.healthy)
    (he : ExecEffect i s t) : t.healthy := by
  cases he with
  | refused | keyed | answered | newSt | newRkn | newGf => exact h
  | aborted _ hinternal => exact absurd hi hinternal

theorem stepCommand_sound {s : State} (h : s.healthy) : soundOutcome (stepCommand s) := by
  unfold stepCommand
  split
  · next i hdecode =>
    obtain ⟨t, ht, he⟩ := exec_effect i (takeCommand s)
    rw [ht]
    have htaken : (takeCommand s).healthy := h
    exact execEffect_keeps_healthy (decode_space hdecode) htaken he
  · exact h
  · rfl
  · exact h

/-- Settles O52, by what the host does next. -/
theorem commandsNeverRaiseFatal : Obligations.CommandsNeverRaiseFatal := by
  unfold Obligations.CommandsNeverRaiseFatal
  intro s hhealthy
  obtain ⟨hseq, hfatal⟩ := hhealthy
  match hinp : s.inp with
  | [] =>
    rw [step_idle hseq hinp]
    exact ⟨hseq, hfatal⟩
  | .reset :: rest =>
    rw [step_reset hseq hinp]
    exact ⟨rfl, rfl⟩
  | .present bytes :: rest =>
    rw [step_present hseq hinp]
    exact stepCommand_sound ⟨hseq, hfatal⟩

/-! ### An unsupported multiplicand -/

/-- Each comparison of the multiplier is with a number of GFSET (R90, R98). -/
theorem gfmul_unsupported {n : Byte} (hn : n ∉ gfSet) (T : Tables) (m : Byte) : gfmul T n m = .error .multiplicand := by
  simp only [gfSet, List.mem_cons, List.not_mem_nil, or_false, not_or] at hn
  simp only [gfmul, hn, if_false]

/-- An accepted block command whose transform raises takes the fatal error, with no answer block (R172, R173, R216). -/
theorem blockCommandWith_aborts {f : RoundKeys → Block → Raise Block} {p : List Byte} {b : Block} {cause : Cause}
    {s : State} (hfatal : s.fatal = false) (hkvalid : s.kvalid = true) (hblock : blockOfBytes p = some b)
    (hraise : f s.rk b = .error cause) : abortedWith (causeCode cause) s (blockCommandWith f p s) := by
  refine ⟨Config.freeBlock s.draws, s.draws + 1, ?_⟩
  simp only [blockCommandWith, acceptCommand_ok hfatal hblock fun _ => hkvalid, hraise]
  rfl

/-- Settles O9: GFMUL compares with GFSET alone, and both block commands are block commands over a transform. -/
theorem unsupportedMultiplicandAborts : Obligations.UnsupportedMultiplicandAborts := by
  unfold Obligations.UnsupportedMultiplicandAborts
  refine ⟨fun T n m hn => gfmul_unsupported hn T m, fun T p b s hblock hkvalid hfatal => ⟨?_, ?_⟩⟩
  · exact blockCommandWith_aborts (f := encBlock T) hfatal hkvalid hblock
  · exact blockCommandWith_aborts (f := decBlock T) hfatal hkvalid hblock

/-! ### A corrupted MIX -/

section
variable {T : Tables} {n : Byte}

/-- The first product of a row is the first to raise (R220). -/
theorem mixRow_unsupported {matrix : Rows} {r : Fin 4} (hentry : readEntry matrix r 0 = .ok n) (hn : n ∉ gfSet)
    (a : Word) : mixRow T matrix a r = .error .multiplicand := by
  simp only [mixRow, hentry, gfmul_unsupported hn, bind, Except.bind]

/-- What the first cell raises, the whole loop raises (R220, log 10). -/
theorem mkBlockM_error {ε : Type} {f : Fin 4 → Fin 4 → Except ε Byte} {e : ε} (h : f 0 0 = .error e) :
    mkBlockM f = .error e := by
  simp only [mkBlockM, mkWordM, h, bind, Except.bind]

theorem mixColumns_unsupported (hentry : readEntry T.mix 0 0 = .ok n) (hn : n ∉ gfSet) (s : Block) :
    mixColumns T s = .error .multiplicand :=
  mkBlockM_error (f := fun r c => mixRow T T.mix (columnOf s c) r) (mixRow_unsupported hentry hn _)

/-- With the printed SBOX and `MIX[0][0]` unsupported, MC of stage 1 raises, so ENC_BLOCK does, whatever the key and the
block. -/
theorem encBlock_unsupported (hsbox : T.sbox = tables.sbox) (hentry : readEntry T.mix 0 0 = .ok n) (hn : n ∉ gfSet)
    (rk : RoundKeys) (b : Block) : encBlock T rk b = .error .multiplicand := by
  have hround : ∀ s, encRound T rk s 1 = .error .multiplicand := fun s => by
    have hsub : subBytes T s = subBytes tables s := by rw [subBytes, subBytes, hsbox]
    simp only [encRound, hsub, subBytes_eq, mixColumns_unsupported hentry hn, bind, Except.bind]
  have hrounds : ∀ s, (roundsTo (Config.rounds - 1)).foldlM (encRound T rk) s = .error .multiplicand := fun s => by
    rw [show roundsTo (Config.rounds - 1) = 1 :: List.range' 2 8 by decide, List.foldlM_cons, hround]
    rfl
  simp only [encBlock, addRoundKey_of_lt (show 0 < 11 by omega), hrounds, bind, Except.bind]

end

/-- The key schedule does not read MIX. -/
theorem keyExpand_mix (T : Tables) (matrix : Rows) (key : Block) :
    keyExpand { T with mix := matrix } key = keyExpand T key := rfl

/-- The inverse transform does not read MIX. -/
theorem decBlock_mix (T : Tables) (matrix : Rows) : decBlock { T with mix := matrix } = decBlock T := rfl

/-- Settles O35: 04 is unsupported, and neither the key schedule nor the inverse transform reads MIX. -/
theorem corruptedMatrixAborts : Obligations.CorruptedMatrixAborts := by
  unfold Obligations.CorruptedMatrixAborts
  refine fun s p => ⟨fun hfatal hkvalid hlen => ?_, ?_, ?_⟩
  · obtain ⟨b, hblock⟩ := blockOfBytes_of_length hlen
    have hentry : readEntry corruptedTables.mix 0 0 = .ok 0x04 := rfl
    have hraise : encBlock corruptedTables s.rk b = .error .multiplicand :=
      encBlock_unsupported (T := corruptedTables) rfl hentry (by decide) s.rk b
    exact blockCommandWith_aborts hfatal hkvalid hblock hraise
  · simp only [keyloadWith, corruptedTables, keyExpand_mix]
  · rw [decryptWith, decryptWith, corruptedTables, decBlock_mix]

end Sys2Proof.Proofs
end

section
/-! PROOFS. The statements of 41_key_schedule.md: the two micro-operations of the schedule (R111 to R115), and KEYEXPAND as
the word-indexed recurrence (R116, R117). -/

namespace Sys2Proof.Proofs

open Sys2Proof.Machine

/-! ### One round -/

/-- The steps of KEXP(r) are the spec's own (R112 to R115). -/
theorem expandRound_isRoundKey {r : Nat} (h1 : 1 ≤ r) (h2 : r ≤ 10) (p : Block) :
    ∃ k, expandRound tables r p = .ok k ∧ isRoundKey (roundConstant (r - 1)) p k := by
  have hconst : readRcon tables.rcon (r - 1) = .ok (roundConstant (r - 1)) := readRcon_eq_roundConstant (by omega)
  simp only [expandRound, if_pos (And.intro h1 h2), subWord_eq, addRcon, hconst, bind, Except.bind, pure, Except.pure]
  exact ⟨_, rfl, _, _, _, _, readTable_sbox _, readTable_sbox _, readTable_sbox _, readTable_sbox _,
    rfl, rfl, rfl, rfl⟩

/-- One round of KEYEXPAND writes register `r` with the round key made from register `r - 1` (R115, R116). -/
theorem expandInto_isRoundKey {r : Nat} (h1 : 1 ≤ r) (h2 : r ≤ 10) (rkn : RoundKeys) :
    ∃ k, expandInto tables r rkn = .ok (rkn.set r k) ∧ isRoundKey (roundConstant (r - 1)) rkn[r - 1] k := by
  obtain ⟨k, hk, hinto⟩ := expandInto_total h1 h2 rkn
  obtain ⟨k', hk', hround⟩ := expandRound_isRoundKey h1 h2 rkn[r - 1]
  obtain rfl : k = k' := Except.ok.inj (hk.symm.trans hk')
  exact ⟨k, hinto, hround⟩

theorem updateRkn_of_error {f : RoundKeys → Raise RoundKeys} {s : State} {cause : Cause}
    (h : f s.rkn = .error cause) : updateRkn f s = takeFatal cause s := by
  simp only [updateRkn, h]

theorem exec_kexp (r : BitVec 4) (s : State) :
    exec (.kexp r) s = .next (updateRkn (expandInto tables r.toNat) s) := rfl

/-- Settles O19: the loop body of KEYEXPAND for `r` 1 to 10, its raise for any other. -/
theorem kexpMakesRoundKey : Obligations.KexpMakesRoundKey := by
  unfold Obligations.KexpMakesRoundKey
  refine ⟨fun s r h1 h2 => ?_, fun s r hr => ?_⟩
  · obtain ⟨k, hinto, hround⟩ := expandInto_isRoundKey h1 h2 s.rkn
    refine ⟨k, roundConstant (r.toNat - 1), ?_, readRcon_eq_roundConstant (by omega), hround⟩
    rw [exec_kexp, updateRkn_of_ok hinto]
  · refine ⟨_, ?_, takeFatal_abortedWith .roundIndex s s.seq⟩
    rw [exec_kexp, updateRkn_of_error (expandInto_of_not hr tables s.rkn)]

/-! ### The loop over the rounds -/

/-- The registers below `n` are made: register 0 is the key, and each later one is the round key after the one before it. -/
def madeBelow (key : Block) (n : Nat) (rk : RoundKeys) : Prop :=
  rk[0] = key ∧ ∀ r (_ : r + 1 < 11), r + 1 < n → isRoundKey (roundConstant r) rk[r] rk[r + 1]

theorem madeBelow_load (key : Block) (rk : RoundKeys) : madeBelow key 1 (rk.set 0 key) :=
  ⟨Vector.getElem_set_self _, fun r _ hr => absurd hr (by omega)⟩

/-- Making one more register leaves those before it as they are. -/
theorem madeBelow_set {key k : Block} {n : Nat} {rk : RoundKeys} (h : madeBelow key n rk) (h1 : 1 ≤ n) (h2 : n ≤ 10)
    (hk : isRoundKey (roundConstant (n - 1)) rk[n - 1] k) : madeBelow key (n + 1) (rk.set n k) := by
  obtain ⟨hkey, hrounds⟩ := h
  refine ⟨?_, fun r hr hrn => ?_⟩
  · rw [Vector.getElem_set_ne _ _ (by omega)]
    exact hkey
  · rw [Vector.getElem_set_ne (i := n) (j := r) _ _ (by omega)]
    by_cases hlast : n = r + 1
    · subst hlast
      rw [Vector.getElem_set_self]
      exact hk
    · rw [Vector.getElem_set_ne _ _ hlast]
      exact hrounds r hr (by omega)

/-- Rounds `r` to 10 make the registers that are missing. -/
theorem madeBelow_expandRounds {key : Block} {r n : Nat} (h1 : 1 ≤ r) (h2 : r + n = 11) {a : RoundKeys}
    (h : madeBelow key r a) :
    ∃ rk, (List.range' r n).foldlM (fun rkn r => expandInto tables r rkn) a = .ok rk ∧ madeBelow key 11 rk := by
  induction n generalizing r a with
  | zero =>
    obtain rfl : r = 11 := h2
    exact ⟨a, rfl, h⟩
  | succ n ih =>
    obtain ⟨k, hinto, hk⟩ := expandInto_isRoundKey h1 (by omega) a
    rw [List.range'_succ, List.foldlM_cons, hinto]
    exact ih (by omega) (by omega) (madeBelow_set h h1 (by omega) hk)

/-- KEYEXPAND makes all eleven registers (R116). -/
theorem keyExpand_madeBelow (key : Block) : ∃ rk, keyExpand tables key = .ok rk ∧ madeBelow key 11 rk :=
  madeBelow_expandRounds (by omega) rfl (madeBelow_load key (Vector.replicate 11 key))

/-! ### Schedule words -/

/-- Word `4r + c` is column `c` of round key `r` (R110). -/
theorem scheduleWord_eq_columnOf {rk : RoundKeys} {i r : Nat} {c : Fin 4} (hr : r < 11) (hi : i = 4 * r + c.val) :
    scheduleWord rk i = columnOf rk[r] c := by
  have hkey : i / 4 = r := by omega
  have hcolumn : Fin.ofNat 4 i = c := Fin.ext (by simp only [Fin.ofNat]; omega)
  rw [scheduleWord, hkey, hcolumn, Vector.getElem?_eq_getElem hr, Option.getD_some]

/-- Settles O18: register 0 is the key, before the rounds and after them. -/
theorem kld0LoadsKey : Obligations.Kld0LoadsKey := by
  unfold Obligations.Kld0LoadsKey
  refine fun s key => ⟨?_, fun rk hrk c => ?_⟩
  · have hload : loadInto key s.rkn = .ok (s.rkn.set 0 key) := writeRk_of_lt (by omega)
    exact congrArg Host.Outcome.next (updateRkn_of_ok hload)
  · obtain ⟨rk', hrk', hkey, -⟩ := keyExpand_madeBelow key
    obtain rfl : rk = rk' := Except.ok.inj (hrk.symm.trans hrk')
    rw [scheduleWord_eq_columnOf (r := 0) (c := c) (by omega) (by omega), hkey]

theorem word_xor_comm (a b : Word) : a.xor b = b.xor a :=
  word_ext fun r => by rw [byteOf_xor, byteOf_xor, BitVec.xor_comm]

/-- Column 0 of round key `r`, by the operations on words (R112 to R115). -/
theorem isRoundKey_first {c : Byte} {r : Nat} {p k : Block} (hc : readRcon tables.rcon (r - 1) = .ok c)
    (h : isRoundKey c p k) :
    ∃ u t, subWord tables (rotWord p.w3) = .ok u ∧ addRcon tables u r = .ok t ∧ k.w0 = p.w0.xor t := by
  obtain ⟨x0, x1, x2, x3, hx0, hx1, hx2, hx3, hw0, -⟩ := h
  refine ⟨⟨x0, x1, x2, x3⟩, ⟨x0 ^^^ c, x1, x2, x3⟩, ?_, ?_, ?_⟩
  · simp only [subWord, mkWordM, rotWord, byteOf, hx0, hx1, hx2, hx3, bind, Except.bind, pure, Except.pure]
  · simp only [addRcon, hc, bind, Except.bind, pure, Except.pure]
  · rw [hw0, word_xor_comm]

/-- The chain of xors: each later column takes the one before it (R115). -/
theorem isRoundKey_chain {roundByte : Byte} {p k : Block} (h : isRoundKey roundByte p k) (c : Fin 3) :
    columnOf k c.succ = (columnOf p c.succ).xor (columnOf k c.castSucc) := by
  obtain ⟨-, -, -, -, -, -, -, -, -, hw1, hw2, hw3⟩ := h
  rw [word_xor_comm]
  match c with
  | 0 => exact hw1
  | 1 => exact hw2
  | 2 => exact hw3

section
variable {rk : RoundKeys} {i r : Nat}

/-- A word at a multiple of 4 is the first column of round key `r + 1`; the word before it is the last of round key `r`. -/
theorem scheduleWord_first (hr : r < 10) (h : isRoundKey (roundConstant r) rk[r] rk[r + 1]) (hi : i = 4 * (r + 1)) :
    ∃ u t, subWord tables (rotWord (scheduleWord rk (i - 1))) = .ok u ∧ addRcon tables u (r + 1) = .ok t ∧
      scheduleWord rk i = (scheduleWord rk (i - 4)).xor t := by
  have hnew : scheduleWord rk i = columnOf rk[r + 1] 0 := scheduleWord_eq_columnOf (by omega) hi
  have hi4 : i - 4 = 4 * r := by omega
  have hi1 : i - 1 = 4 * r + 3 := by omega
  have hold : scheduleWord rk (i - 4) = columnOf rk[r] 0 := scheduleWord_eq_columnOf (by omega) hi4
  have hlast : scheduleWord rk (i - 1) = columnOf rk[r] 3 := scheduleWord_eq_columnOf (by omega) hi1
  rw [hnew, hold, hlast]
  exact isRoundKey_first (r := r + 1) (readRcon_eq_roundConstant hr) h

/-- Any other word and the word before it are columns of the same round key `r + 1`. -/
theorem scheduleWord_chain (hr : r < 10) (h : isRoundKey (roundConstant r) rk[r] rk[r + 1]) {c : Fin 3}
    (hi : i = 4 * (r + 1) + (c.val + 1)) :
    scheduleWord rk i = (scheduleWord rk (i - 4)).xor (scheduleWord rk (i - 1)) := by
  have hnew : scheduleWord rk i = columnOf rk[r + 1] c.succ := scheduleWord_eq_columnOf (by omega) hi
  have hold : scheduleWord rk (i - 4) = columnOf rk[r] c.succ :=
    scheduleWord_eq_columnOf (by omega) (by rw [Fin.val_succ]; omega)
  have hprev : scheduleWord rk (i - 1) = columnOf rk[r + 1] c.castSucc :=
    scheduleWord_eq_columnOf (by omega) (by rw [Fin.val_castSucc]; omega)
  rw [hnew, hold, hprev]
  exact isRoundKey_chain h c

end

/-- Settles O20: word `i` is in round key `i / 4`, which is made from the one before it. -/
theorem keyScheduleWordForm : Obligations.KeyScheduleWordForm := by
  unfold Obligations.KeyScheduleWordForm
  intro key
  obtain ⟨rk, hrk, hkey, hrounds⟩ := keyExpand_madeBelow key
  refine ⟨rk, hrk, hkey, fun i h4 h44 => ?_⟩
  obtain ⟨r, hr⟩ : ∃ r, i / 4 = r + 1 := ⟨i / 4 - 1, by omega⟩
  have hround : isRoundKey (roundConstant r) rk[r] rk[r + 1] := hrounds r (by omega) (by omega)
  refine ⟨fun hlater => ?_, fun hfirst => ?_⟩
  · have hi : i = 4 * (r + 1) + (i % 4 - 1 + 1) := by omega
    exact scheduleWord_chain (c := ⟨i % 4 - 1, by omega⟩) (by omega) hround hi
  · rw [hr]
    exact scheduleWord_first (by omega) hround (by omega)

end Sys2Proof.Proofs
end

section
/-! PROOFS. The statements of 42_forward_transform.md: ARK (R130), SB (R131), SR (R132) and MC (R133) as single
micro-operations, with the laws of a diffusion by any matrix over GFSET (R60, R101). -/

namespace Sys2Proof.Proofs

open Sys2Proof.Machine

/-! ### Micro-operations on ST -/

/-- A micro-operation whose transform gives a block puts it into ST and changes nothing else. -/
theorem exec_of_updateSt_ok {i : Instr} {f : Block → Raise Block} {s : State} {b : Block}
    (hexec : exec i s = .next (updateSt f s)) (hb : f s.st = .ok b) : exec i s = .next { s with st := b } := by
  rw [hexec, updateSt_of_ok hb]

theorem updateSt_of_error {f : Block → Raise Block} {s : State} {cause : Cause} (h : f s.st = .error cause) :
    updateSt f s = takeFatal cause s := by
  simp only [updateSt, h]

/-! ### Columns of a diffusion, as products -/

/-- The entries of row `r` of a diffusion matrix are there and are supported multiplicands (R101). -/
def rowSupported (matrix : Rows) (r : Fin 4) : Prop :=
  ∀ k : Fin 4, readEntry matrix r k = .ok (matrixEntry matrix r k) ∧ matrixEntry matrix r k ∈ gfSet

/-- Row `r` of a matrix times a column, with products for the table entries (R60, R99). -/
def rowProduct (matrix : Rows) (a : Word) (r : Fin 4) : Byte :=
  gfProduct (matrixEntry matrix r 0) a.b0 ^^^ gfProduct (matrixEntry matrix r 1) a.b1 ^^^
    gfProduct (matrixEntry matrix r 2) a.b2 ^^^ gfProduct (matrixEntry matrix r 3) a.b3

/-- A matrix times each column of a block, with products for the table entries (R133, R152). -/
def diffused (matrix : Rows) (s : Block) : Block := mkBlock fun r c => rowProduct matrix (columnOf s c) r

@[simp] theorem columnOf_mkBlock (f : Fin 4 → Fin 4 → Byte) (c : Fin 4) :
    columnOf (mkBlock f) c = mkWord fun r => f r c := by
  fin_cases c <;> rfl

@[simp] theorem columnOf_xor (a b : Block) (c : Fin 4) :
    columnOf (a.xor b) c = (columnOf a c).xor (columnOf b c) := by
  fin_cases c <;> rfl

theorem columnOf_diffused (matrix : Rows) (s : Block) (c : Fin 4) :
    columnOf (diffused matrix s) c = mkWord (rowProduct matrix (columnOf s c)) :=
  columnOf_mkBlock _ c

theorem mixRow_eq_rowProduct {matrix : Rows} {r : Fin 4} (h : rowSupported matrix r) (a : Word) :
    mixRow tables matrix a r = .ok (rowProduct matrix a r) := by
  have hread : ∀ k : Fin 4, readEntry matrix r k = .ok (matrixEntry matrix r k) := fun k => (h k).1
  have hmul : ∀ k m, gfmul tables (matrixEntry matrix r k) m = .ok (gfProduct (matrixEntry matrix r k) m) :=
    fun k m => gfmul_eq_product (h k).2 m
  have h0 : readEntry matrix r 0 = _ := hread 0
  have h1 : readEntry matrix r 1 = _ := hread 1
  have h2 : readEntry matrix r 2 = _ := hread 2
  have h3 : readEntry matrix r 3 = _ := hread 3
  simp only [mixRow, h0, h1, h2, h3, hmul, bind, Except.bind, pure, Except.pure, rowProduct]

/-- The lookups of a diffusion over GFSET are the products (R100, R101). -/
theorem diffuse_eq_diffused {matrix : Rows} (h : ∀ r, rowSupported matrix r) (s : Block) :
    diffuse tables matrix s = .ok (diffused matrix s) := by
  simp only [diffuse, mixRow_eq_rowProduct (h _), mkBlockM_ok, diffused]

theorem rowProduct_xor (matrix : Rows) (a b : Word) (r : Fin 4) :
    rowProduct matrix (a.xor b) r = rowProduct matrix a r ^^^ rowProduct matrix b r := by
  simp only [rowProduct, Word.xor, gfProduct_xor_right]
  ac_rfl

theorem diffused_xor (matrix : Rows) (a b : Block) :
    diffused matrix (a.xor b) = (diffused matrix a).xor (diffused matrix b) := by
  apply block_ext
  intro r c
  simp only [diffused, cell_mkBlock, cell_xor, columnOf_xor, rowProduct_xor]

/-- The xor of the entries of a row. -/
def rowSum (matrix : Rows) (r : Fin 4) : Byte :=
  matrixEntry matrix r 0 ^^^ matrixEntry matrix r 1 ^^^ matrixEntry matrix r 2 ^^^ matrixEntry matrix r 3

/-- A row whose entries sum to 1 keeps the byte of a column of four equal bytes. -/
theorem rowProduct_of_equal_bytes {matrix : Rows} {r : Fin 4} (h : rowSum matrix r = 1) (a : Byte) :
    rowProduct matrix ⟨a, a, a, a⟩ r = a := by
  have hsum : rowProduct matrix ⟨a, a, a, a⟩ r = gfProduct (rowSum matrix r) a := by
    simp only [rowProduct, rowSum, gfProduct_xor_left]
  rw [hsum, h, gfProduct_one_left]

/-! ### MC -/

theorem mix_rowSupported (r : Fin 4) : rowSupported tables.mix r := fun k => readEntry_mix r k

theorem mix_rowSum (r : Fin 4) : rowSum tables.mix r = 1 := by
  revert r; decide

/-- MIX is circulant: 2 on the diagonal, 3 to its right, 1 elsewhere (R60). -/
theorem matrixEntry_mix (r k : Fin 4) :
    matrixEntry tables.mix r k = if k = r then 2 else if k = r + 1 then 3 else 1 := by
  revert r k; decide

/-- The spec's column formula is the product with the rows of MIX (R133). -/
theorem mcColumn_eq_rowProduct (a : Word) : mcColumn a = mkWord (rowProduct tables.mix a) := by
  apply word_ext
  intro r
  have hbypass : ∀ m, gfProduct 1#8 m = m := gfProduct_one_left
  rw [byteOf_mkWord]
  fin_cases r <;> simp [rowProduct, matrixEntry_mix, hbypass, mcColumn, byteOf]

theorem mixColumns_eq (s : Block) : mixColumns tables s = .ok (diffused tables.mix s) :=
  diffuse_eq_diffused mix_rowSupported s

theorem mcColumn_of_equal_bytes (a : Byte) : mcColumn ⟨a, a, a, a⟩ = ⟨a, a, a, a⟩ := by
  rw [mcColumn_eq_rowProduct]
  apply word_ext
  intro r
  rw [byteOf_mkWord, rowProduct_of_equal_bytes (mix_rowSum r)]
  fin_cases r <;> rfl

/-- Settles O14: MIX is over GFSET, so MC is the product with its rows, which is linear and whose entries sum to 1. -/
theorem mcDiffusesColumns : Obligations.McDiffusesColumns := by
  unfold Obligations.McDiffusesColumns
  refine ⟨rfl, fun s => ⟨diffused tables.mix s.st, ?_, fun c => ?_⟩, mcColumn_of_equal_bytes, fun a b => ?_⟩
  · exact exec_of_updateSt_ok rfl (mixColumns_eq s.st)
  · rw [columnOf_diffused, mcColumn_eq_rowProduct]
  · exact ⟨_, _, mixColumns_eq a, mixColumns_eq b, by rw [mixColumns_eq, diffused_xor]⟩

/-! ### ARK -/

theorem exec_ark_of_lt {s : State} {j : BitVec 4} (h : j.toNat < 11) :
    exec (.ark j) s = .next { s with st := s.st.xor s.rk[j.toNat] } :=
  exec_of_updateSt_ok rfl (addRoundKey_of_lt h s.st)

theorem exec_ark_of_ge {s : State} {j : BitVec 4} (h : 11 ≤ j.toNat) :
    exec (.ark j) s = .next (takeFatal .roundIndex s) :=
  congrArg Host.Outcome.next (updateSt_of_error (addRoundKey_of_ge h s.st))

/-- Settles O11: within RK the xor with a round key, which undoes itself; beyond RK the raise of the read. -/
theorem arkCombinesRoundKey : Obligations.ArkCombinesRoundKey := by
  unfold Obligations.ArkCombinesRoundKey
  refine ⟨fun j => congrArg ([·]) (label_of_append j 0x1), fun s j h => ?_, fun s j h => ?_⟩
  · refine ⟨s.st.xor s.rk[j.toNat], exec_ark_of_lt h, cell_xor _ _, ?_⟩
    rw [exec_ark_of_lt h, xor_self_cancel]
  · exact ⟨_, exec_ark_of_ge h, takeFatal_abortedWith .roundIndex s s.seq⟩

/-! ### SB -/

/-- No entry of SBOX is its index or the complement of its index (R131). -/
theorem entryOf_sbox_ne (b : Byte) : entryOf tables.sbox b ≠ b ∧ entryOf tables.sbox b ≠ b ^^^ 0xff := by
  revert b; decide +kernel

/-- Settles O12: a byte index never raises, so each cell is its SBOX entry. -/
theorem sbSubstitutesBytes : Obligations.SbSubstitutesBytes := by
  unfold Obligations.SbSubstitutesBytes
  refine ⟨rfl, fun s => ⟨_, exec_of_updateSt_ok rfl (subBytes_eq s.st), fun r c => ?_⟩, rfl, fun b v hv => ?_⟩
  · rw [readTable_sbox, cell_mkBlock]
  · obtain rfl : entryOf tables.sbox b = v := Except.ok.inj ((readTable_sbox b).symm.trans hv)
    exact entryOf_sbox_ne b

/-! ### SR -/

/-- Byte `4c + r` of a block's byte string is the cell in row `r`, column `c` (R10). -/
theorem bytesOfBlock_getElem? (s : Block) (r c : Fin 4) :
    (bytesOfBlock s)[4 * c.val + r.val]? = some (cell s r c) := by
  fin_cases c <;> fin_cases r <;> rfl

/-- A block whose rows take their cells from the columns `source` of another block is, by linear index, that block permuted
by `map`, where `map` says the same of linear indices. -/
theorem bytesOfBlock_permuted {a b : Block} {source : Fin 4 → Fin 4 → Fin 4} {map : List Nat}
    (hcell : ∀ r c, cell a r c = cell b r (source r c))
    (hmap : ∀ r c : Fin 4, map.getD (4 * c.val + r.val) 16 = 4 * (source r c).val + r.val) {i : Nat} (hi : i < 16) :
    (bytesOfBlock a)[i]? = (bytesOfBlock b)[map.getD i 16]? := by
  obtain ⟨r, c, rfl⟩ : ∃ r c : Fin 4, i = 4 * c.val + r.val :=
    ⟨⟨i % 4, by omega⟩, ⟨i / 4, by omega⟩, (Nat.div_add_mod i 4).symm⟩
  rw [hmap, bytesOfBlock_getElem?, bytesOfBlock_getElem?, hcell]

@[simp] theorem cell_shiftRows (s : Block) (r c : Fin 4) : cell (shiftRows s) r c = cell s r (c + r) :=
  cell_mkBlock _ r c

/-- SRMAP is the rotation of the rows by linear index (R132). -/
theorem srMap_eq (r c : Fin 4) : srMap.getD (4 * c.val + r.val) 16 = 4 * (c + r).val + r.val := by
  revert r c; decide

/-- Settles O13: the cells of SR are those of its definition, and SRMAP says the same of linear indices. -/
theorem srRotatesRowsLeft : Obligations.SrRotatesRowsLeft := by
  unfold Obligations.SrRotatesRowsLeft
  refine ⟨rfl, fun s => ⟨shiftRows s.st, exec_of_updateSt_ok rfl rfl, cell_shiftRows s.st, fun i hi => ?_⟩⟩
  exact bytesOfBlock_permuted (cell_shiftRows s.st) srMap_eq hi

end Sys2Proof.Proofs
end

section
/-! PROOFS. The statements of 43_inverse_transform.md: ISR (R150), ISB (R151) and IMC (R152) as single micro-operations, each
with the forward one that it undoes, and from these pairs DEC_BLOCK as the inverse of ENC_BLOCK (R154). -/

namespace Sys2Proof.Proofs

open Sys2Proof.Machine

/-! ### Transforms that undo each other -/

/-- `g` after `f` gives back every block: neither raises (R154). -/
def Undoes (g f : Block → Raise Block) : Prop := ∀ b, (f b >>= g) = .ok b

/-- `f` and `g` undo each other on every block. -/
structure Inverses (f g : Block → Raise Block) : Prop where
  undoes_left : Undoes g f
  undoes_right : Undoes f g

theorem Undoes.exists_between {f g : Block → Raise Block} (h : Undoes g f) (b : Block) :
    ∃ d, f b = .ok d ∧ g d = .ok b := by
  have hb := h b
  cases hd : f b with
  | error cause =>
    rw [hd] at hb
    cases hb
  | ok d =>
    rw [hd] at hb
    exact ⟨d, rfl, hb⟩

theorem undoes_of_exists_between {f g : Block → Raise Block} (h : ∀ b, ∃ d, f b = .ok d ∧ g d = .ok b) :
    Undoes g f := by
  intro b
  obtain ⟨d, hf, hg⟩ := h b
  rw [hf]
  exact hg

/-- A sequence is undone from its end. -/
theorem Undoes.comp {f g f' g' : Block → Raise Block} (h : Undoes g f) (h' : Undoes g' f') :
    Undoes (g' >=> g) (f >=> f') := by
  refine undoes_of_exists_between fun b => ?_
  obtain ⟨d, hf, hg⟩ := h.exists_between b
  obtain ⟨e, hf', hg'⟩ := h'.exists_between d
  refine ⟨e, ?_, ?_⟩
  · rw [← hf']
    exact congrArg (· >>= f') hf
  · rw [← hg]
    exact congrArg (· >>= g) hg'

theorem Inverses.comp {f g f' g' : Block → Raise Block} (h : Inverses f g) (h' : Inverses f' g') :
    Inverses (f >=> f') (g' >=> g) :=
  ⟨h.undoes_left.comp h'.undoes_left, h'.undoes_right.comp h.undoes_right⟩

/-- The identity is its own inverse. -/
theorem inverses_ok : Inverses .ok .ok := ⟨fun _ => rfl, fun _ => rfl⟩

/-- A loop is undone by the loop of the bodies' inverses in the reverse order. -/
theorem inverses_foldlM {f g : Block → Nat → Raise Block} {l : List Nat}
    (h : ∀ r ∈ l, Inverses (f · r) (g · r)) :
    Inverses (fun b => l.foldlM f b) (fun b => l.reverse.foldlM g b) := by
  induction l with
  | nil => exact inverses_ok
  | cons r l ih =>
    have htail := ih fun r' hr' => h r' (List.mem_cons_of_mem r hr')
    have hcomp := (h r List.mem_cons_self).comp htail
    have hloop : (fun b => (r :: l).reverse.foldlM g b) = (fun b => l.reverse.foldlM g b) >=> (g · r) := by
      funext b
      simp [Bind.kleisliRight]
    rw [hloop]
    exact hcomp

/-- Functions that undo each other do so as transforms that never raise. -/
theorem inverses_of_functions {f g : Block → Block} (hleft : ∀ b, g (f b) = b) (hright : ∀ b, f (g b) = b) :
    Inverses (fun b => .ok (f b)) (fun b => .ok (g b)) :=
  ⟨fun b => congrArg Except.ok (hleft b), fun b => congrArg Except.ok (hright b)⟩

theorem inverses_ark (rk : RoundKeys) {j : Nat} (h : j < 11) :
    Inverses (addRoundKey rk j) (addRoundKey rk j) := by
  have heq : addRoundKey rk j = fun s => .ok (s.xor rk[j]) := funext (addRoundKey_of_lt h)
  rw [heq]
  exact inverses_of_functions (xor_self_cancel · rk[j]) (xor_self_cancel · rk[j])

/-! ### ISR -/

@[simp] theorem cell_invShiftRows (s : Block) (r c : Fin 4) : cell (invShiftRows s) r c = cell s r (c - r) :=
  cell_mkBlock _ r c

/-- ISRMAP is the rotation of the rows to the right by linear index (R150). -/
theorem isrMap_eq (r c : Fin 4) : isrMap.getD (4 * c.val + r.val) 16 = 4 * (c - r).val + r.val := by
  revert r c; decide

@[simp] theorem invShiftRows_shiftRows (b : Block) : invShiftRows (shiftRows b) = b := by
  apply block_ext
  intro r c
  rw [cell_invShiftRows, cell_shiftRows, sub_add_cancel]

@[simp] theorem shiftRows_invShiftRows (b : Block) : shiftRows (invShiftRows b) = b := by
  apply block_ext
  intro r c
  rw [cell_shiftRows, cell_invShiftRows, add_sub_cancel_right]

/-- Settles O15: the cells of ISR are those of its definition, ISRMAP says the same of linear indices, and rotations by the
same number of columns cancel. -/
theorem isrRotatesRowsRight : Obligations.IsrRotatesRowsRight := by
  unfold Obligations.IsrRotatesRowsRight
  refine ⟨rfl, fun s => ⟨invShiftRows s.st, exec_of_updateSt_ok rfl rfl, cell_invShiftRows s.st, fun i hi => ?_⟩,
    fun b => ⟨invShiftRows_shiftRows b, shiftRows_invShiftRows b⟩⟩
  exact bytesOfBlock_permuted (cell_invShiftRows s.st) isrMap_eq hi

theorem inverses_sr : Inverses (fun b => .ok (shiftRows b)) (fun b => .ok (invShiftRows b)) :=
  inverses_of_functions invShiftRows_shiftRows shiftRows_invShiftRows

/-! ### ISB -/

/-- A block with every byte replaced by its entry of a table. -/
def substituted (t : Rows) (s : Block) : Block := mkBlock fun r c => entryOf t (cell s r c)

@[simp] theorem cell_substituted (t : Rows) (s : Block) (r c : Fin 4) :
    cell (substituted t s) r c = entryOf t (cell s r c) :=
  cell_mkBlock _ r c

theorem subBytes_eq_substituted : subBytes tables = fun s => .ok (substituted tables.sbox s) :=
  funext subBytes_eq

theorem invSubBytes_eq_substituted : invSubBytes tables = fun s => .ok (substituted tables.invSbox s) :=
  funext invSubBytes_eq

/-- A substitution undoes another when its table does. -/
theorem substituted_substituted {t u : Rows} (h : ∀ b, entryOf u (entryOf t b) = b) (s : Block) :
    substituted u (substituted t s) = s := by
  apply block_ext
  intro r c
  rw [cell_substituted, cell_substituted, h]

theorem inverses_sb : Inverses (subBytes tables) (invSubBytes tables) := by
  rw [subBytes_eq_substituted, invSubBytes_eq_substituted]
  exact inverses_of_functions (substituted_substituted entryOf_invSbox_sbox)
    (substituted_substituted entryOf_sbox_invSbox)

/-- A substitution acts on each byte alike and ISR only moves bytes (R151). -/
theorem substituted_invShiftRows (t : Rows) (s : Block) :
    substituted t (invShiftRows s) = invShiftRows (substituted t s) := by
  apply block_ext
  intro r c
  simp only [cell_substituted, cell_invShiftRows]

/-- No entry of INV_SBOX is its index: its SBOX entry would be itself (R151). -/
theorem entryOf_invSbox_ne (b : Byte) : entryOf tables.invSbox b ≠ b := by
  intro h
  have hfixed : entryOf tables.sbox b = b := by rw [← h, entryOf_sbox_invSbox, h]
  exact (entryOf_sbox_ne b).1 hfixed

/-- Settles O16: a byte index never raises, so each cell is its INV_SBOX entry, and the tables undo each other. -/
theorem isbSubstitutesBack : Obligations.IsbSubstitutesBack := by
  unfold Obligations.IsbSubstitutesBack
  refine ⟨rfl, fun s => ⟨_, exec_of_updateSt_ok rfl (invSubBytes_eq s.st), fun r c => ?_⟩, rfl, rfl,
    fun b v hv => ?_, fun b => ⟨inverses_sb.undoes_left b, inverses_sb.undoes_right b, ?_⟩⟩
  · rw [readTable_invSbox, cell_mkBlock]
  · obtain rfl : entryOf tables.invSbox b = v := Except.ok.inj ((readTable_invSbox b).symm.trans hv)
    exact entryOf_invSbox_ne b
  · rw [invSubBytes_eq_substituted]
    exact congrArg Except.ok (substituted_invShiftRows tables.invSbox b)

/-! ### IMC -/

theorem invMix_rowSupported (r : Fin 4) : rowSupported tables.invMix r := fun k => readEntry_invMix r k

theorem invMix_rowSum (r : Fin 4) : rowSum tables.invMix r = 1 := by
  revert r; decide

/-- INV_MIX is circulant: 14 on the diagonal, then 11, 13 and 9 to its right (R60). -/
theorem matrixEntry_invMix (r k : Fin 4) :
    matrixEntry tables.invMix r k = if k = r then 14 else if k = r + 1 then 11 else if k = r + 2 then 13 else 9 := by
  revert r k; decide

/-- The spec's column formula is the product with the rows of INV_MIX (R152). -/
theorem imcColumn_eq_rowProduct (a : Word) : imcColumn a = mkWord (rowProduct tables.invMix a) := by
  apply word_ext
  intro r
  rw [byteOf_mkWord]
  fin_cases r <;> simp [rowProduct, matrixEntry_invMix, imcColumn, byteOf]

theorem invMixColumns_eq (s : Block) : invMixColumns tables s = .ok (diffused tables.invMix s) :=
  diffuse_eq_diffused invMix_rowSupported s

theorem imcColumn_of_equal_bytes (a : Byte) : imcColumn ⟨a, a, a, a⟩ = ⟨a, a, a, a⟩ := by
  simp only [imcColumn_eq_rowProduct, mkWord, rowProduct_of_equal_bytes (invMix_rowSum _)]

/-- Column `k` of a diffusion matrix. -/
def matrixColumn (matrix : Rows) (k : Fin 4) : Word := mkWord fun j => matrixEntry matrix j k

/-- The entry in row `r`, column `k` of the matrix product of `n` and `m` over the field of R99. -/
def productEntry (n m : Rows) (r k : Fin 4) : Byte := rowProduct n (matrixColumn m k) r

/-- A matrix times a matrix times a column is the matrix product times the column. -/
theorem rowProduct_mkWord_rowProduct (n m : Rows) (a : Word) (r : Fin 4) :
    rowProduct n (mkWord (rowProduct m a)) r =
      gfProduct (productEntry n m r 0) a.b0 ^^^ gfProduct (productEntry n m r 1) a.b1 ^^^
        gfProduct (productEntry n m r 2) a.b2 ^^^ gfProduct (productEntry n m r 3) a.b3 := by
  simp only [productEntry, matrixColumn, rowProduct, mkWord, gfProduct_xor_left, gfProduct_xor_right, gfProduct_assoc]
  ac_rfl

/-- The matrix product of `n` and `m` is the unit matrix. -/
def productIsUnit (n m : Rows) : Prop := ∀ r k, productEntry n m r k = if k = r then 1 else 0

/-- An entry of the unit matrix times a byte. -/
theorem gfProduct_unitEntry (p : Prop) [Decidable p] (b : Byte) :
    gfProduct (if p then 1 else 0) b = if p then b else 0 := by
  split
  · exact gfProduct_one_left b
  · exact gfProduct_zero_left b

/-- A diffusion undoes another when the product of their matrices is the unit matrix. -/
theorem diffused_diffused {n m : Rows} (h : productIsUnit n m) (s : Block) : diffused n (diffused m s) = s := by
  apply block_ext
  intro r c
  rw [diffused, cell_mkBlock, columnOf_diffused, rowProduct_mkWord_rowProduct]
  simp only [h r _, gfProduct_unitEntry]
  fin_cases r <;> simp [cell, byteOf]

/-- INV_MIX is the left and right inverse of MIX (R60, R152). -/
theorem invMix_mix_productIsUnit :
    productIsUnit tables.invMix tables.mix ∧ productIsUnit tables.mix tables.invMix := by
  unfold productIsUnit
  decide +kernel

theorem inverses_mc : Inverses (mixColumns tables) (invMixColumns tables) := by
  rw [funext mixColumns_eq, funext invMixColumns_eq]
  exact inverses_of_functions (diffused_diffused invMix_mix_productIsUnit.1)
    (diffused_diffused invMix_mix_productIsUnit.2)

/-- Settles O17: INV_MIX is over GFSET, so IMC is the product with its rows, which is linear, whose entries sum to 1, and
whose matrix is the inverse of MIX. -/
theorem imcDiffusesBack : Obligations.ImcDiffusesBack := by
  unfold Obligations.ImcDiffusesBack
  refine ⟨rfl, fun s => ⟨diffused tables.invMix s.st, ?_, fun c => ?_⟩, imcColumn_of_equal_bytes, fun a b => ?_,
    fun b => ⟨inverses_mc.undoes_left b, inverses_mc.undoes_right b⟩⟩
  · exact exec_of_updateSt_ok rfl (invMixColumns_eq s.st)
  · rw [columnOf_diffused, imcColumn_eq_rowProduct]
  · exact ⟨_, _, invMixColumns_eq a, invMixColumns_eq b, by rw [invMixColumns_eq, diffused_xor]⟩

/-! ### The block transforms -/

/-- The body of stage `r` of DEC_BLOCK is that of ENC_BLOCK read backwards (R134, R153). -/
theorem inverses_round (rk : RoundKeys) {r : Nat} (h : r < 11) :
    Inverses (encRound tables rk · r) (decRound tables rk · r) := by
  have hround := inverses_sb.comp (inverses_sr.comp (inverses_mc.comp (inverses_ark rk h)))
  simp only [fish_assoc] at hround
  exact hround

/-- DEC_BLOCK is ENC_BLOCK read backwards, with every transform replaced by its inverse (R154). -/
theorem inverses_block (rk : RoundKeys) : Inverses (encBlock tables rk) (decBlock tables rk) := by
  have hfirst := inverses_ark rk (show 0 < 11 by omega)
  have hrounds := inverses_foldlM (l := roundsTo (Config.rounds - 1)) fun r hr =>
    inverses_round rk (show r < 11 by have := mem_roundsTo hr; simp only [Config.rounds] at this; omega)
  have hlast := inverses_sb.comp (inverses_sr.comp (inverses_ark rk (show Config.rounds < 11 by decide)))
  have hblock := hfirst.comp (hrounds.comp hlast)
  simp only [fish_assoc] at hblock
  exact hblock

/-- Settles O21: the two transforms undo each other stage by stage. -/
theorem decryptUndoesEncrypt : Obligations.DecryptUndoesEncrypt := by
  unfold Obligations.DecryptUndoesEncrypt
  intro rk b
  exact ⟨(inverses_block rk).undoes_left.exists_between b, (inverses_block rk).undoes_right.exists_between b⟩

end Sys2Proof.Proofs
end

section
/-! PROOFS. The statements of 44_commands.md: each command with its refusals (R171, R172, R173), the order of the checks
(R174), one response for every complete command (R170), and the re-key (R175). -/

namespace Sys2Proof.Proofs

open Sys2Proof.Machine

/-! ### The command word -/

/-- A whole command word is read by its code (R71, R73). -/
theorem decode_commandBytes (c0 : Byte) {p : List Byte} (h : p.length ≤ 255) :
    decode .cmd (commandBytes c0 p) = decodeCode c0 p :=
  decodeCmd_encodeCmd c0 h

/-! ### The checks of a command -/

section
variable {lengthError : RespCode} {needsKey : Bool} {p : List Byte} {s : State}

theorem acceptCommand_of_fatal (h : s.fatal = true) : acceptCommand lengthError needsKey p s = .error .errFatal :=
  if_pos h

theorem acceptCommand_of_length (hfatal : s.fatal = false) (hlen : p.length ≠ 16) :
    acceptCommand lengthError needsKey p s = .error lengthError := by
  have hnone : blockOfBytes p = none := (blockOfBytes_eq_none p).mpr hlen
  simp [acceptCommand, hfatal, hnone]

theorem acceptCommand_of_noKey (hfatal : s.fatal = false) (hlen : p.length = 16) (hkvalid : s.kvalid = false) :
    acceptCommand lengthError true p s = .error .errNokey := by
  obtain ⟨b, hblock⟩ := blockOfBytes_of_length hlen
  simp [acceptCommand, hfatal, hblock, hkvalid]

end

/-- The error the checks of R174 end in, if they do. -/
def refusalOf : Except RespCode Block → Option RespCode
  | .error code => some code
  | .ok _ => none

/-- For KEYLOAD, R174's chain of checks is the one the machine makes. -/
theorem firstError_keyload (p : List Byte) (s : State) :
    firstError 0x01 p.length s = refusalOf (acceptCommand .errKeylen false p s) := by
  cases hfatal : s.fatal with
  | true => simp [firstError, hfatal, acceptCommand_of_fatal hfatal, refusalOf]
  | false =>
    by_cases hlen : p.length = 16
    · obtain ⟨b, hblock⟩ := blockOfBytes_of_length hlen
      have haccept : acceptCommand .errKeylen false p s = .ok b := acceptCommand_ok hfatal hblock nofun
      simp [firstError, hfatal, hlen, haccept, refusalOf]
    · simp [firstError, hfatal, hlen, acceptCommand_of_length hfatal hlen, refusalOf]

/-- R174's chain for the two codes of the block commands, which pass check 2 and take the second half of check 3. -/
theorem firstError_blockCode {c0 : Byte} (hcode : c0 = 0x02 ∨ c0 = 0x03) (n : Nat) (s : State) :
    firstError c0 n s =
      if s.fatal then some .errFatal else if n ≠ 16 then some .errBlklen
      else if s.kvalid = false then some .errNokey else none := by
  rcases hcode with rfl | rfl <;> simp [firstError]

/-- For the block commands, R174's chain of checks is the one the machine makes. -/
theorem firstError_block {c0 : Byte} (hcode : c0 = 0x02 ∨ c0 = 0x03) (p : List Byte) (s : State) :
    firstError c0 p.length s = refusalOf (acceptCommand .errBlklen true p s) := by
  rw [firstError_blockCode hcode]
  cases hfatal : s.fatal with
  | true => simp [acceptCommand_of_fatal hfatal, refusalOf]
  | false =>
    by_cases hlen : p.length = 16
    · cases hkvalid : s.kvalid with
      | false => simp [hlen, acceptCommand_of_noKey hfatal hlen hkvalid, refusalOf]
      | true =>
        obtain ⟨b, hblock⟩ := blockOfBytes_of_length hlen
        have haccept : acceptCommand .errBlklen true p s = .ok b := acceptCommand_ok hfatal hblock fun _ => hkvalid
        simp [hlen, haccept, refusalOf]
    · simp [hlen, acceptCommand_of_length hfatal hlen, refusalOf]

/-- For an illegal code, R174's chain ends at check 1 or 2. -/
theorem firstError_illegal {c0 : Byte} (hcode : c0 ∉ ([0x01, 0x02, 0x03] : List Byte)) (n : Nat) (s : State) :
    firstError c0 n s = some (if s.fatal then .errFatal else .errCmd) := by
  simp only [List.mem_cons, List.not_mem_nil, or_false, not_or] at hcode
  unfold firstError
  rw [if_pos (show c0 ≠ 0x01 ∧ c0 ≠ 0x02 ∧ c0 ≠ 0x03 from hcode)]
  split <;> rfl

/-! ### KEYLOAD -/

section
variable {T : Tables} {p : List Byte} {s : State}

theorem keyloadWith_refused {code : RespCode} (h : acceptCommand .errKeylen false p s = .error code) :
    keyloadWith T p s = refuse code s := by
  simp only [keyloadWith, h]

theorem keyloadWith_installs {key : Block} {rk : RoundKeys} (haccept : acceptCommand .errKeylen false p s = .ok key)
    (hrk : keyExpand T key = .ok rk) :
    keyloadWith T p s = respond ⟨.ok, none⟩ { s with rk := rk, kvalid := true } := by
  simp only [keyloadWith, haccept, hrk]

end

/-- Settles O25: 16 bytes are a key, every key has a schedule, and the rounds leave register 0 alone. -/
theorem keyloadInstallsSchedule : Obligations.KeyloadInstallsSchedule := by
  unfold Obligations.KeyloadInstallsSchedule
  refine fun s p => ⟨decode_commandBytes 0x01, fun hfatal hlen => ?_, fun hfatal hlen => ?_, fun hfatal => ?_⟩
  · obtain ⟨key, hblock⟩ := blockOfBytes_of_length hlen
    obtain ⟨rk, hrk, hkey, -⟩ := keyExpand_madeBelow key
    exact ⟨key, rk, bytesOfBlock_of_some hblock, hrk, hkey,
      congrArg Host.Outcome.next (keyloadWith_installs (acceptCommand_ok hfatal hblock nofun) hrk)⟩
  · exact congrArg Host.Outcome.next (keyloadWith_refused (acceptCommand_of_length hfatal hlen))
  · exact congrArg Host.Outcome.next (keyloadWith_refused (acceptCommand_of_fatal hfatal))

/-! ### ENCRYPT and DECRYPT -/

section
variable {f g : RoundKeys → Block → Raise Block} {p : List Byte} {s : State}

theorem blockCommandWith_refused {code : RespCode} (h : acceptCommand .errBlklen true p s = .error code) :
    blockCommandWith f p s = refuse code s := by
  simp only [blockCommandWith, h]

/-- What R172 and R173 say of a block command, for any operation that is one over a transform that never raises. -/
theorem exec_blockCommand {i : Instr} (hi : exec i s = .next (blockCommandWith f p s))
    (hf : ∀ rk b, ∃ d, f rk b = .ok d) :
    (s.fatal = false → s.kvalid = true → p.length = 16 → ∃ b d t,
      bytesOfBlock b = p ∧ f s.rk b = .ok d ∧ exec i s = .next t ∧ answeredWith d s t) ∧
    (s.fatal = true → exec i s = .next (refuse .errFatal s)) ∧
    (s.fatal = false → p.length ≠ 16 → exec i s = .next (refuse .errBlklen s)) ∧
    (s.fatal = false → p.length = 16 → s.kvalid = false → exec i s = .next (refuse .errNokey s)) := by
  rw [hi]
  refine ⟨fun hfatal hkvalid hlen => ?_, fun hfatal => ?_, fun hfatal hlen => ?_, fun hfatal hlen hkvalid => ?_⟩
  · obtain ⟨b, hblock⟩ := blockOfBytes_of_length hlen
    obtain ⟨d, hd⟩ := hf s.rk b
    exact ⟨b, d, _, bytesOfBlock_of_some hblock, hd, rfl, blockCommandWith_answers hfatal hkvalid hblock hd⟩
  · rw [blockCommandWith_refused (acceptCommand_of_fatal hfatal)]
  · rw [blockCommandWith_refused (acceptCommand_of_length hfatal hlen)]
  · rw [blockCommandWith_refused (acceptCommand_of_noKey hfatal hlen hkvalid)]

/-- A block command changes nothing that the next one reads. -/
theorem answeredWith_keeps {d : Block} {t : State} (h : answeredWith d s t) :
    t.rk = s.rk ∧ t.kvalid = s.kvalid ∧ t.fatal = s.fatal := by
  obtain ⟨_, _, rfl⟩ := h
  exact ⟨rfl, rfl, rfl⟩

/-- A block command over a transform that undoes another's gives back the block the other was given. -/
theorem blockCommandWith_undone (h : Undoes (g s.rk) (f s.rk)) (hfatal : s.fatal = false) (hkvalid : s.kvalid = true)
    (b : Block) :
    ∃ d t, blockCommandWith f (bytesOfBlock b) s = t ∧ answeredWith d s t ∧
      answeredWith b t (blockCommandWith g (bytesOfBlock d) t) := by
  obtain ⟨d, hd, hb⟩ := h.exists_between b
  have hanswer := blockCommandWith_answers hfatal hkvalid (blockOfBytes_bytesOfBlock b) hd
  obtain ⟨hrk, hkvalid', hfatal'⟩ := answeredWith_keeps hanswer
  refine ⟨d, _, rfl, hanswer, ?_⟩
  exact blockCommandWith_answers (hfatal'.trans hfatal) (hkvalid'.trans hkvalid) (blockOfBytes_bytesOfBlock d)
    (by rw [hrk, hb])

end

/-- Settles O26: ENCRYPT is the block command over ENC_BLOCK, which never raises. -/
theorem encryptAnswersEncBlock : Obligations.EncryptAnswersEncBlock := by
  unfold Obligations.EncryptAnswersEncBlock
  exact fun s p => ⟨decode_commandBytes 0x02, exec_blockCommand rfl encBlock_total⟩

/-- Settles O27: DECRYPT is the block command over DEC_BLOCK, which never raises, and the two transforms undo each other. -/
theorem decryptAnswersDecBlock : Obligations.DecryptAnswersDecBlock := by
  unfold Obligations.DecryptAnswersDecBlock
  refine ⟨fun s p => ⟨decode_commandBytes 0x03, exec_blockCommand rfl decBlock_total⟩, fun s b hfatal hkvalid => ?_⟩
  obtain ⟨hleft, hright⟩ := inverses_block s.rk
  obtain ⟨d, _, rfl, hd, hb⟩ := blockCommandWith_undone (f := encBlock tables) hleft hfatal hkvalid b
  obtain ⟨e, _, rfl, he, hb'⟩ := blockCommandWith_undone (f := decBlock tables) hright hfatal hkvalid b
  exact ⟨d, _, _, e, _, _, rfl, hd, rfl, hb, rfl, he, rfl, hb'⟩

/-! ### A complete command, in one step -/

section
variable {s : State} {c0 : Byte} {p : List Byte} {rest : List HostAct}

/-- A complete command of a legal code runs at the idle interface it leaves behind (R170). -/
theorem step_presenting {i : Instr} {t : State} (hlen : p.length ≤ 255) (hcode : decodeCode c0 p = .ok i)
    (hexec : exec i (s.ready rest) = .next t) : step (s.presenting (commandBytes c0 p) rest) = .next t := by
  rw [← hexec]
  exact step_command (s := s.presenting (commandBytes c0 p) rest) rfl rfl ((decode_commandBytes c0 hlen).trans hcode)

theorem stepCommand_illegal (h : decode .cmd s.rx = .error (.illegalCommand c0)) :
    stepCommand s = .next (refuseIllegal (takeCommand s)) := by
  simp only [stepCommand, h]

/-- A complete command of an illegal code is refused (R75). -/
theorem step_presenting_illegal (hlen : p.length ≤ 255) (hcode : c0 ∉ ([0x01, 0x02, 0x03] : List Byte)) :
    step (s.presenting (commandBytes c0 p) rest) = .next (refuseIllegal (s.ready rest)) := by
  have hdecode : decode .cmd (commandBytes c0 p) = .error (.illegalCommand c0) := by
    rcases decodeCode_cases c0 p with ⟨_, -, hlegal⟩ | ⟨hillegal, -⟩
    · exact absurd hlegal hcode
    · exact (decode_commandBytes c0 hlen).trans hillegal
  rw [step_present (s := s.presenting (commandBytes c0 p) rest) rfl rfl]
  exact stepCommand_illegal hdecode

end

/-- `t` is a state after one response to a command, at an idle interface at which the host goes on with `rest`. -/
def respondedOnce (q : Response) (rest : List HostAct) (s t : State) : Prop :=
  t.out = s.out ++ [q] ∧ t.inp = rest ∧ t.rx = [] ∧ t.seq = []

/-- What one step over a complete command does: it refuses with the error of the first check that fails, or, if none does, the
command runs and answers OK, with data exactly if it is a block command (R174). -/
inductive CommandEffect (s : State) (c0 : Byte) (p : List Byte) (rest : List HostAct) : State → Prop
  /-- A check fails. -/
  | refused (e : RespCode) (h : firstError c0 p.length s = some e) :
      CommandEffect s c0 p rest (refuse e (s.ready rest))
  /-- No check fails. -/
  | performed (data : Option Block) (t : State) (h : firstError c0 p.length s = none)
      (hdata : data = none ↔ c0 = 0x01) (ht : respondedOnce ⟨.ok, data⟩ rest s t) : CommandEffect s c0 p rest t

/-- The checks look at the flags, which taking a command off the interface leaves alone. -/
theorem firstError_ready (c0 : Byte) (n : Nat) (s : State) (rest : List HostAct) :
    firstError c0 n (s.ready rest) = firstError c0 n s := rfl

theorem keyload_commandEffect (s : State) (p : List Byte) (rest : List HostAct) :
    CommandEffect s 0x01 p rest (keyloadWith tables p (s.ready rest)) := by
  have hfirst := firstError_keyload p (s.ready rest)
  rw [firstError_ready] at hfirst
  cases haccept : acceptCommand .errKeylen false p (s.ready rest) with
  | error code =>
    rw [haccept, refusalOf] at hfirst
    rw [keyloadWith_refused haccept]
    exact .refused code hfirst
  | ok key =>
    rw [haccept, refusalOf] at hfirst
    obtain ⟨rk, hrk⟩ := keyExpand_total key
    rw [keyloadWith_installs haccept hrk]
    exact .performed none _ hfirst (iff_of_true rfl rfl) ⟨rfl, rfl, rfl, rfl⟩

theorem blockCommand_commandEffect {f : RoundKeys → Block → Raise Block} (hf : ∀ rk b, ∃ d, f rk b = .ok d) {c0 : Byte}
    (hcode : c0 = 0x02 ∨ c0 = 0x03) (s : State) (p : List Byte) (rest : List HostAct) :
    CommandEffect s c0 p rest (blockCommandWith f p (s.ready rest)) := by
  have hfirst := firstError_block hcode p (s.ready rest)
  rw [firstError_ready] at hfirst
  cases haccept : acceptCommand .errBlklen true p (s.ready rest) with
  | error code =>
    rw [haccept, refusalOf] at hfirst
    rw [blockCommandWith_refused haccept]
    exact .refused code hfirst
  | ok b =>
    rw [haccept, refusalOf] at hfirst
    obtain ⟨d, hd⟩ := hf (s.ready rest).rk b
    have hnotKeyload : c0 ≠ 0x01 := by rcases hcode with rfl | rfl <;> decide
    refine .performed (some d) _ hfirst (iff_of_false nofun hnotKeyload) ?_
    simp only [blockCommandWith, haccept, hd]
    exact ⟨rfl, rfl, rfl, rfl⟩

/-- One step over any complete command, by its code (R174). -/
theorem step_presenting_effect (s : State) (c0 : Byte) {p : List Byte} (rest : List HostAct) (hlen : p.length ≤ 255) :
    ∃ t, step (s.presenting (commandBytes c0 p) rest) = .next t ∧ CommandEffect s c0 p rest t := by
  by_cases hcode : c0 ∈ ([0x01, 0x02, 0x03] : List Byte)
  · simp only [List.mem_cons, List.not_mem_nil, or_false] at hcode
    rcases hcode with rfl | rfl | rfl
    · exact ⟨_, step_presenting hlen rfl rfl, keyload_commandEffect s p rest⟩
    · exact ⟨_, step_presenting hlen rfl rfl, blockCommand_commandEffect encBlock_total (.inl rfl) s p rest⟩
    · exact ⟨_, step_presenting hlen rfl rfl, blockCommand_commandEffect decBlock_total (.inr rfl) s p rest⟩
  · exact ⟨_, step_presenting_illegal hlen hcode, .refused _ (firstError_illegal hcode p.length s)⟩

/-- Settles O33: a complete command has one of two effects, told apart by the chain of checks. -/
theorem checksInOrder : Obligations.ChecksInOrder := by
  unfold Obligations.ChecksInOrder
  intro s c0 p rest hlen
  obtain ⟨t, hstep, heffect⟩ := step_presenting_effect s c0 rest hlen
  rw [hstep]
  cases heffect with
  | refused e h =>
    rw [h]
    refine ⟨fun e' he' => ?_, nofun⟩
    obtain rfl : e = e' := Option.some.inj he'
    rfl
  | performed data t h hdata ht =>
    obtain ⟨hout, -⟩ := ht
    rw [h]
    exact ⟨nofun, fun _ => ⟨t, data, rfl, hout, hdata⟩⟩

/-- Settles O43: both effects of a complete command add one response and leave the interface idle. -/
theorem oneResponsePerCommand : Obligations.OneResponsePerCommand := by
  unfold Obligations.OneResponsePerCommand
  intro s c0 p rest hlen
  obtain ⟨t, hstep, heffect⟩ := step_presenting_effect s c0 rest hlen
  cases heffect with
  | refused e _ => exact ⟨⟨e, none⟩, _, hstep, rfl, rfl, rfl, rfl⟩
  | performed data t _ _ ht => exact ⟨⟨.ok, data⟩, t, hstep, ht⟩

/-! ### Re-keying -/

/-- The state after a KEYLOAD that made the schedule `rk` (R171). -/
def afterKeyload (rk : RoundKeys) (s : State) : State := respond ⟨.ok, none⟩ { s with rk := rk, kvalid := true }

theorem length_bytesOfBlock_le (b : Block) : (bytesOfBlock b).length ≤ 255 := by
  rw [length_bytesOfBlock]
  omega

section
variable {s : State} {rk : RoundKeys} {key : Block}

theorem step_presenting_keyload (hfatal : s.fatal = false) (hrk : keyExpand tables key = .ok rk)
    (rest : List HostAct) :
    step (s.presenting (commandBytes 0x01 (bytesOfBlock key)) rest) = .next ((afterKeyload rk s).ready rest) := by
  have haccept : acceptCommand .errKeylen false (bytesOfBlock key) (s.ready rest) = .ok key :=
    acceptCommand_ok hfatal (blockOfBytes_bytesOfBlock key) nofun
  exact step_presenting (length_bytesOfBlock_le key) rfl (congrArg Host.Outcome.next (keyloadWith_installs haccept hrk))

/-- KEYLOAD and then a block command, presented one after the other: the block command works under the new key (R175). -/
theorem run_keyload_then_block {f : RoundKeys → Block → Raise Block} {b d : Block} {c0 : Byte} {i : Instr}
    (hfatal : s.fatal = false) (hrk : keyExpand tables key = .ok rk) (hd : f rk b = .ok d)
    (hcode : decodeCode c0 (bytesOfBlock b) = .ok i)
    (hi : ∀ s, exec i s = .next (blockCommandWith f (bytesOfBlock b) s)) :
    ∃ u, core.run 2 (s.presenting (commandBytes 0x01 (bytesOfBlock key))
        [.present (commandBytes c0 (bytesOfBlock b))]) = .next u ∧
      u.out = s.out ++ [⟨.ok, none⟩, ⟨.ok, some d⟩] ∧ u.rk = rk := by
  have hblock : step ((afterKeyload rk s).ready [.present (commandBytes c0 (bytesOfBlock b))])
      = .next (blockCommandWith f (bytesOfBlock b) ((afterKeyload rk s).ready [])) :=
    step_presenting (length_bytesOfBlock_le b) hcode (hi _)
  obtain ⟨_, _, hanswer⟩ := blockCommandWith_answers (s := (afterKeyload rk s).ready []) hfatal rfl
    (blockOfBytes_bytesOfBlock b) hd
  refine ⟨blockCommandWith f (bytesOfBlock b) ((afterKeyload rk s).ready []), ?_, ?_, ?_⟩
  · rw [run_succ_of_next (step_presenting_keyload hfatal hrk _), run_succ_of_next hblock]
    rfl
  · rw [hanswer]
    exact List.append_assoc ..
  · rw [hanswer]
    rfl

end

/-- At an idle interface, placing the host's first action is presenting its bytes. -/
theorem presenting_of_idle {s : State} (hseq : s.seq = []) (hrx : s.rx = []) (bytes : List Byte)
    (rest : List HostAct) : { s with inp := .present bytes :: rest } = s.presenting bytes rest := by
  simp only [State.presenting, ← hseq, ← hrx]

/-- Settles O37: both block commands follow a KEYLOAD that installed the new key's schedule. -/
theorem rekeyTakesEffect : Obligations.RekeyTakesEffect := by
  unfold Obligations.RekeyTakesEffect
  intro s key b hfatal _ hseq hrx
  obtain ⟨rk, hrk⟩ := keyExpand_total key
  obtain ⟨d, hd⟩ := encBlock_total rk b
  obtain ⟨e, he⟩ := decBlock_total rk b
  obtain ⟨u, hu⟩ := run_keyload_then_block (c0 := 0x02) hfatal hrk hd rfl fun _ => rfl
  obtain ⟨v, hv⟩ := run_keyload_then_block (c0 := 0x03) hfatal hrk he rfl fun _ => rfl
  rw [presenting_of_idle hseq hrx, presenting_of_idle hseq hrx]
  obtain ⟨hrun, hout, hrkU⟩ := hu
  exact ⟨rk, d, e, u, v, hrk, hd, he, hrun, hout, hrkU, hv⟩

end Sys2Proof.Proofs
end

section
/-! PROOFS. The statements of 45_host_framing.md: padding (R191), unpadding (R194), and a message encrypted and decrypted block
by block (R192, R193, R198). -/

namespace Sys2Proof.Proofs

open Sys2Proof.Machine

/-! ### Padding and unpadding -/

/-- A padded message is the message, the marker and zeros (R191). -/
theorem padMessage_eq (m : List Byte) :
    padMessage m = (m ++ [marker]) ++ List.replicate (15 - m.length % 16) 0 := by
  simp [padMessage]

theorem length_padMessage (m : List Byte) : (padMessage m).length = 16 * (m.length / 16 + 1) := by
  simp only [padMessage, List.length_append, List.length_cons, List.length_replicate]
  omega

/-- Settles O58: the three parts of a padded message have these lengths, and the last is all zeros. -/
theorem paddingLength : Obligations.PaddingLength := by
  unfold Obligations.PaddingLength
  refine fun m => ⟨length_padMessage m, ?_, fun b hb => ?_⟩
  · rw [padMessage_eq]
    exact List.prefix_append ..
  · rw [padMessage_eq, List.drop_left' (by simp)] at hb
    exact List.eq_of_mem_replicate hb

section
variable {m : List Byte}

/-- A message without the marker passes unpadding's scan to its end. -/
theorem forall_ne_marker (h : marker ∉ m) : ∀ b ∈ m, decide (b ≠ marker) = true :=
  fun _ hb => decide_eq_true (ne_of_mem_of_not_mem hb h)

/-- Without a marker unpadding returns the whole sequence (R194). -/
theorem unpadMessage_of_not_mem (h : marker ∉ m) : unpadMessage m = m :=
  List.takeWhile_eq_self_iff.mpr (forall_ne_marker h)

/-- Unpadding stops at the first marker and does not look at the bytes after it (R194, U16). -/
theorem unpadMessage_append_marker (h : marker ∉ m) (rest : List Byte) : unpadMessage (m ++ marker :: rest) = m := by
  rw [unpadMessage, List.takeWhile_append_of_pos (forall_ne_marker h), List.takeWhile_cons_of_neg (by simp),
    List.append_nil]

theorem unpadMessage_padMessage (h : marker ∉ m) : unpadMessage (padMessage m) = m :=
  unpadMessage_append_marker h _

end

/-- Settles O59: padding puts a marker behind the message, and unpadding stops at the first one. -/
theorem unpaddingTruncatesAtFirstMarker : Obligations.UnpaddingTruncatesAtFirstMarker := by
  unfold Obligations.UnpaddingTruncatesAtFirstMarker
  exact ⟨fun _ h => ⟨unpadMessage_padMessage h, unpadMessage_of_not_mem h⟩,
    fun _ rest h => unpadMessage_append_marker h rest⟩

/-! ### Byte sequences as blocks -/

/-- The byte sequence of a sequence of blocks. -/
def bytesOfBlocks (bs : List Block) : List Byte := bs.flatMap bytesOfBlock

@[simp] theorem bytesOfBlocks_nil : bytesOfBlocks [] = [] := rfl

@[simp] theorem bytesOfBlocks_cons (b : Block) (bs : List Block) :
    bytesOfBlocks (b :: bs) = bytesOfBlock b ++ bytesOfBlocks bs := List.flatMap_cons

@[simp] theorem length_bytesOfBlocks (bs : List Block) : (bytesOfBlocks bs).length = 16 * bs.length := by
  induction bs with
  | nil => rfl
  | cons b bs ih =>
    rw [bytesOfBlocks_cons, List.length_append, length_bytesOfBlock, ih, List.length_cons]
    omega

/-- A byte sequence of `16 * n` bytes is that of `n` blocks. -/
theorem exists_bytesOfBlocks {n : Nat} {bytes : List Byte} (h : bytes.length = 16 * n) :
    ∃ bs, bs.length = n ∧ bytesOfBlocks bs = bytes := by
  induction n generalizing bytes with
  | zero => exact ⟨[], rfl, (List.eq_nil_of_length_eq_zero h).symm⟩
  | succ n ih =>
    have htake : (bytes.take 16).length = 16 := by rw [List.length_take]; omega
    have hdrop : (bytes.drop 16).length = 16 * n := by rw [List.length_drop]; omega
    obtain ⟨b, hb⟩ := blockOfBytes_of_length htake
    obtain ⟨bs, hlen, hbs⟩ := ih hdrop
    refine ⟨b :: bs, congrArg Nat.succ hlen, ?_⟩
    rw [bytesOfBlocks_cons, bytesOfBlock_of_some hb, hbs, List.take_append_drop]

theorem piecesOf_bytesOfBlocks (bs : List Block) : piecesOf bs.length (bytesOfBlocks bs) = bs.map bytesOfBlock := by
  induction bs with
  | nil => rfl
  | cons b bs ih =>
    rw [bytesOfBlocks_cons, List.length_cons, piecesOf, List.take_left' (length_bytesOfBlock b),
      List.drop_left' (length_bytesOfBlock b), ih, List.map_cons]

/-- Cutting the bytes of whole blocks gives the blocks (R192). -/
theorem blocksOf_bytesOfBlocks (bs : List Block) : blocksOf (bytesOfBlocks bs) = bs.map bytesOfBlock := by
  rw [blocksOf, length_bytesOfBlocks, Nat.mul_div_cancel_left bs.length (by omega), piecesOf_bytesOfBlocks]

/-! ### One block command per block -/

/-- The host presents one command of code `c0` for each block, in order (R192, R193). -/
def blockScript (c0 : Byte) (bs : List Block) : List HostAct :=
  bs.map fun b => .present (commandBytes c0 (bytesOfBlock b))

theorem encryptScript_eq {m : List Byte} {bs : List Block} (h : bytesOfBlocks bs = padMessage m) :
    encryptScript m = blockScript 0x02 bs := by
  rw [encryptScript, ← h, blocksOf_bytesOfBlocks, List.map_map]
  rfl

theorem decryptScript_eq (bs : List Block) : decryptScript (bytesOfBlocks bs) = blockScript 0x03 bs := by
  rw [decryptScript, blocksOf_bytesOfBlocks, List.map_map]
  rfl

/-- The responses of block commands that answer these blocks (R74). -/
def answers (ds : List Block) : List Response := ds.map fun d => ⟨.ok, some d⟩

/-- The host joins the answers to the bytes of the answered blocks (R192, R193). -/
theorem resultBytes_answers (ds : List Block) : resultBytes (answers ds) = bytesOfBlocks ds :=
  List.flatMap_map ..

/-- `t` is `s` after block commands that answered `ds` in order: `answeredWith` for any number of them. -/
def answeredAll (ds : List Block) (s t : State) : Prop :=
  ∃ st draws, t = { s with st := st, draws := draws, out := s.out ++ answers ds }

theorem answeredAll_nil (s : State) : answeredAll [] s s :=
  ⟨s.st, s.draws, by rw [answers, List.map_nil, List.append_nil]⟩

theorem answeredAll_out {ds : List Block} {s t : State} (h : answeredAll ds (s.ready []) t) :
    t.out = s.out ++ answers ds := by
  obtain ⟨_, _, rfl⟩ := h
  rfl

/-- Block commands at an idle interface leave it idle, and change nothing that the next one reads. -/
theorem answeredAll_keeps {ds : List Block} {s t : State} (h : answeredAll ds (s.ready []) t) :
    t.rk = s.rk ∧ t.kvalid = s.kvalid ∧ t.fatal = s.fatal ∧ t.seq = [] ∧ t.rx = [] := by
  obtain ⟨_, _, rfl⟩ := h
  exact ⟨rfl, rfl, rfl, rfl, rfl⟩

/-- A run that answers `ds`, after a command that answered `d`; the host's list is the only other thing that changes. -/
theorem answeredAll_cons {d : Block} {ds : List Block} {s t u : State} {rest : List HostAct}
    (hfirst : answeredWith d (s.ready rest) t) (hrest : answeredAll ds (t.ready []) u) :
    answeredAll (d :: ds) (s.ready []) u := by
  obtain ⟨_, _, rfl⟩ := hfirst
  obtain ⟨st, draws, rfl⟩ := hrest
  exact ⟨st, draws, congrArg (fun out => { s.ready [] with st := st, draws := draws, out := out })
    (List.append_assoc ..)⟩

section
variable {f : RoundKeys → Block → Raise Block} {c0 : Byte} {command : List Byte → Instr}

/-- A script of block commands answers the transform of each block, in order, one step each (R192, R193). -/
theorem run_blockScript (hcode : ∀ p, decodeCode c0 p = .ok (command p))
    (hexec : ∀ p s, exec (command p) s = .next (blockCommandWith f p s)) {bs ds : List Block} {s : State}
    (hfatal : s.fatal = false) (hkvalid : s.kvalid = true) (h : List.Forall₂ (fun b d => f s.rk b = .ok d) bs ds) :
    ∃ t, core.run bs.length (s.ready (blockScript c0 bs)) = .next t ∧ answeredAll ds (s.ready []) t := by
  induction bs generalizing s ds with
  | nil =>
    cases h
    exact ⟨_, rfl, answeredAll_nil _⟩
  | cons b bs ih =>
    cases h with
    | @cons _ d _ ds hd hds =>
      have hstep : step (s.ready (blockScript c0 (b :: bs))) =
          .next (blockCommandWith f (bytesOfBlock b) (s.ready (blockScript c0 bs))) :=
        step_presenting (length_bytesOfBlock_le b) (hcode _) (hexec _ _)
      have hanswer := blockCommandWith_answers (s := s.ready (blockScript c0 bs)) hfatal hkvalid
        (blockOfBytes_bytesOfBlock b) hd
      obtain ⟨hrk, hkvalid', hfatal'⟩ := answeredWith_keeps hanswer
      obtain ⟨u, hrun, hall⟩ := ih (hfatal'.trans hfatal) (hkvalid'.trans hkvalid) (by rw [hrk]; exact hds)
      refine ⟨u, ?_, answeredAll_cons hanswer hall⟩
      rw [List.length_cons, run_succ_of_next hstep, ← hrun]
      obtain ⟨_, _, hready⟩ := hanswer
      rw [hready]
      rfl

end

/-- Transforms of which the second undoes the first give back every sequence of blocks, block by block. -/
theorem Undoes.exists_between_blocks {f g : Block → Raise Block} (h : Undoes g f) (bs : List Block) :
    ∃ ds, List.Forall₂ (fun b d => f b = .ok d) bs ds ∧ List.Forall₂ (fun d b => g d = .ok b) ds bs := by
  induction bs with
  | nil => exact ⟨[], .nil, .nil⟩
  | cons b bs ih =>
    obtain ⟨d, hf, hg⟩ := h.exists_between b
    obtain ⟨ds, hfs, hgs⟩ := ih
    exact ⟨d :: ds, .cons hf hfs, .cons hg hgs⟩

/-! ### The message -/

/-- At an idle interface, giving the host its next actions is going on with them. -/
theorem ready_of_idle {s : State} (hseq : s.seq = []) (hrx : s.rx = []) (acts : List HostAct) :
    { s with inp := acts } = s.ready acts := by
  simp only [State.ready, ← hseq, ← hrx]

/-- Settles O60: a padded message is a sequence of blocks, ENCRYPT answers ENC_BLOCK of each, DECRYPT of these answers gives the
blocks back (R154), and unpadding cuts them at the marker that padding put behind the message. -/
theorem messageRoundTrip : Obligations.MessageRoundTrip := by
  unfold Obligations.MessageRoundTrip
  intro s m hfatal hkvalid hseq hrx hmarker
  obtain ⟨bs, hlen, hbytes⟩ := exists_bytesOfBlocks (length_padMessage m)
  obtain ⟨ds, henc, hdec⟩ := (inverses_block s.rk).undoes_left.exists_between_blocks bs
  have hlenD : ds.length = bs.length := henc.length_eq.symm
  obtain ⟨t, hrunT, hanswerT⟩ :=
    run_blockScript (c0 := 0x02) (fun _ => rfl) (fun _ _ => rfl) hfatal hkvalid henc
  obtain ⟨hrk, hkvalidT, hfatalT, hseqT, hrxT⟩ := answeredAll_keeps hanswerT
  rw [← hrk] at hdec
  obtain ⟨u, hrunU, hanswerU⟩ :=
    run_blockScript (c0 := 0x03) (fun _ => rfl) (fun _ _ => rfl) (hfatalT.trans hfatal) (hkvalidT.trans hkvalid) hdec
  refine ⟨t, answers ds, ?_, answeredAll_out hanswerT, ?_, u, answers bs, ?_, answeredAll_out hanswerU, ?_, ?_⟩
  · rw [ready_of_idle hseq hrx, encryptScript_eq hbytes, ← hlen]
    exact hrunT
  · rw [resultBytes_answers, length_bytesOfBlocks, hlenD, hlen, length_padMessage]
  · rw [ready_of_idle hseqT hrxT, resultBytes_answers, decryptScript_eq, ← hlen, ← hlenD]
    exact hrunU
  · rw [resultBytes_answers, hbytes]
  · rw [resultBytes_answers, hbytes, unpadMessage_padMessage hmarker]

end Sys2Proof.Proofs
end

section
/-! PROOFS. The statements of 60_exceptions.md: the four input errors (R212 to R215), the fatal internal error and the refusals
that follow it (R216, R217, R221), and a fatal error never comes about from reset (R218). -/

namespace Sys2Proof.Proofs

open Sys2Proof.Machine

/-! ### No fatal error in a run from reset -/

/-- What holds of every step of a healthy state holds of every run from one (R218). -/
theorem run_sound {s : State} (h : s.healthy) (n : Nat) : soundOutcome (core.run n s) := by
  induction n generalizing s with
  | zero => exact h
  | succ n ih =>
    have hsound : soundOutcome (step s) := commandsNeverRaiseFatal s h
    cases hstep : step s with
    | next t =>
      rw [hstep] at hsound
      rw [run_succ_of_next hstep]
      exact ih hsound
    | fault r =>
      rw [hstep] at hsound
      exact hsound.elim
    | refused r =>
      rw [hstep] at hsound
      rw [run_succ_of_refused hstep]
      exact hsound

/-- Settles O53: the state after reset is healthy, whatever the host will do. -/
theorem fatalUnreachableFromReset : Obligations.FatalUnreachableFromReset := by
  unfold Obligations.FatalUnreachableFromReset
  intro script n
  have hhealthy : State.healthy { State.reset with inp := script } := ⟨rfl, rfl⟩
  exact run_sound hhealthy n

/-! ### The input errors -/

section
variable {s : State} {c0 : Byte} {p : List Byte} {e : RespCode}

/-- A complete command that fails a check is answered with that check's error, and nothing else changes (R28, R174). -/
theorem step_presenting_refused (rest : List HostAct) (hlen : p.length ≤ 255)
    (h : firstError c0 p.length s = some e) :
    step (s.presenting (commandBytes c0 p) rest) = .next { s.ready rest with out := s.out ++ [⟨e, none⟩] } := by
  obtain ⟨hrefused, -⟩ := checksInOrder s c0 p rest hlen
  exact hrefused e h

theorem firstError_of_fatal (c0 : Byte) (n : Nat) (h : s.fatal = true) : firstError c0 n s = some .errFatal :=
  if_pos h

theorem firstError_keyload_of_length (hfatal : s.fatal = false) (hlen : p.length ≠ 16) :
    firstError 0x01 p.length s = some .errKeylen := by
  rw [firstError_keyload, acceptCommand_of_length hfatal hlen, refusalOf]

theorem firstError_block_of_length (hcode : c0 = 0x02 ∨ c0 = 0x03) (hfatal : s.fatal = false) (hlen : p.length ≠ 16) :
    firstError c0 p.length s = some .errBlklen := by
  rw [firstError_block hcode, acceptCommand_of_length hfatal hlen, refusalOf]

theorem firstError_block_of_noKey (hcode : c0 = 0x02 ∨ c0 = 0x03) (hfatal : s.fatal = false) (hlen : p.length = 16)
    (hkvalid : s.kvalid = false) : firstError c0 p.length s = some .errNokey := by
  rw [firstError_block hcode, acceptCommand_of_noKey hfatal hlen hkvalid, refusalOf]

theorem firstError_illegal_of_running (hcode : c0 ∉ ([0x01, 0x02, 0x03] : List Byte)) (n : Nat)
    (hfatal : s.fatal = false) : firstError c0 n s = some .errCmd := by
  rw [firstError_illegal hcode, hfatal]
  rfl

end

/-- Settles O28: KEYLOAD's first failing check is that of the length. -/
theorem keyLengthError : Obligations.KeyLengthError := by
  unfold Obligations.KeyLengthError
  intro s p rest hfatal hfits hlen
  exact ⟨step_presenting_refused rest hfits (firstError_keyload_of_length hfatal hlen), rfl⟩

/-- Settles O29: the length is checked before the key, so KVALID does not matter. -/
theorem blockLengthError : Obligations.BlockLengthError := by
  unfold Obligations.BlockLengthError
  intro s c0 p rest hcode hfatal hfits hlen
  exact ⟨step_presenting_refused rest hfits (firstError_block_of_length hcode hfatal hlen), rfl⟩

/-- Settles O30: of the checks only that of the key fails. -/
theorem noKeyError : Obligations.NoKeyError := by
  unfold Obligations.NoKeyError
  intro s c0 p rest hcode hfatal hlen hkvalid
  have hfits : p.length ≤ 255 := by omega
  exact ⟨step_presenting_refused rest hfits (firstError_block_of_noKey hcode hfatal hlen hkvalid), rfl⟩

/-- Settles O31: the code is checked before the length and the key. -/
theorem illegalCommandError : Obligations.IllegalCommandError := by
  unfold Obligations.IllegalCommandError
  intro s c0 p rest hcode hfatal hfits
  exact ⟨step_presenting_refused rest hfits (firstError_illegal_of_running hcode p.length hfatal), rfl⟩

/-! ### The fatal internal error -/

/-- Settles O32: FATAL is checked before everything else. -/
theorem fatalRefusesEveryCommand : Obligations.FatalRefusesEveryCommand := by
  unfold Obligations.FatalRefusesEveryCommand
  intro s c0 p rest hfatal hfits
  exact ⟨step_presenting_refused rest hfits (firstError_of_fatal c0 p.length hfatal), rfl⟩

/-- An accepted KEYLOAD whose key schedule raises takes the fatal error and installs nothing (R171, R216). -/
theorem keyloadWith_aborts {T : Tables} {p : List Byte} {key : Block} {cause : Cause} {s : State}
    (hfatal : s.fatal = false) (hblock : blockOfBytes p = some key) (hraise : keyExpand T key = .error cause) :
    abortedWith (causeCode cause) s (keyloadWith T p s) := by
  have haccept : acceptCommand .errKeylen false p s = .ok key := acceptCommand_ok hfatal hblock nofun
  simp only [keyloadWith, haccept, hraise]
  exact takeFatal_abortedWith cause s s.seq

/-- Settles O34: KEYLOAD over the key schedule, the two block commands over their transforms. -/
theorem fatalErrorAborts : Obligations.FatalErrorAborts := by
  unfold Obligations.FatalErrorAborts
  intro T s p b cause hblock hfatal
  refine ⟨keyloadWith_aborts hfatal hblock, fun hkvalid => ?_, fun hkvalid => ?_⟩
  · exact blockCommandWith_aborts (f := encBlock T) hfatal hkvalid hblock
  · exact blockCommandWith_aborts (f := decBlock T) hfatal hkvalid hblock

end Sys2Proof.Proofs
end

section
/-! PROOFS. The statements of 70_reset_and_hazards.md: bytes beyond the end of a command and before its response have no meaning
(R244, U11), and reset clears the flags and abandons a command being taken (R240, R246, R32). -/

namespace Sys2Proof.Proofs

open Sys2Proof.Machine

/-! ### Bytes beyond the end of a command -/

/-- More payload bytes than the length byte announces overrun the command, whatever its code (R71). -/
theorem decodeCmd_overrun (c0 : Byte) {len : Byte} {payload : List Byte} (h : len.toNat < payload.length) :
    decodeCmd (c0 :: len :: payload) = .error .overrun := by
  have hnotMissing : ¬ payload.length < len.toNat := Nat.lt_asymm h
  simp only [decodeCmd, hnotMissing, h, if_true, if_false]

/-- Bytes that overrun the command stop the step, whatever was taken before (R244). -/
theorem step_overrun {s : State} {bytes : List Byte} {rest : List HostAct} (hseq : s.seq = [])
    (hinp : s.inp = .present bytes :: rest) (hdecode : decode .cmd (s.rx ++ bytes) = .error .overrun) :
    step s = .refused .earlyCommand := by
  simp only [step_present hseq hinp, stepCommand, takeBytes_rx, hdecode]

/-- Settles O42: at an idle interface the bytes presented are all there is to read, and they overrun the command. -/
theorem earlyCommandHasNoMeaning : Obligations.EarlyCommandHasNoMeaning := by
  unfold Obligations.EarlyCommandHasNoMeaning
  intro s c0 len more rest hmore
  exact step_overrun (s := s.presenting (c0 :: len :: more) rest) rfl rfl (decodeCmd_overrun c0 hmore)

/-! ### Reset while a command is being taken -/

/-- STATUS reads 00 after reset: each flag it shows is cleared (R32). -/
@[simp] theorem status_applyReset (s : State) : status (applyReset s) = 0x00 := by
  simp only [status, applyReset_fcause, applyReset_fatal, applyReset_kvalid]
  decide

/-- Settles O44: with nothing issued, the step is the reset itself, which clears the flags and the bytes taken and leaves the
responses and the host's later actions alone. -/
theorem resetClearsFlags : Obligations.ResetClearsFlags := by
  unfold Obligations.ResetClearsFlags
  intro s rest hseq hinp
  refine ⟨applyReset { s with inp := rest }, step_reset hseq hinp, ?_⟩
  simp only [applyReset_kvalid, applyReset_fatal, applyReset_fcause, status_applyReset, applyReset_rx, applyReset_seq,
    applyReset_inp, applyReset_out, and_self]

end Sys2Proof.Proofs
end
